-- ==== Sys2Proof/Word.lean ====
section
/-! DEFINITION. The two word types of the core: a byte (a general register, a memory cell, an opcode)
and a 16-bit word (`pc`, `sp`, an address, a port, a register pair). Arithmetic on them is `BitVec`'s, which is
the modular arithmetic of `40_incdec_arith16.md` rule R125. -/

namespace Sys2Proof

/-- An 8-bit value: bit 0 is the least significant (`00_scope.md` rules R5, R6). -/
abbrev Byte := BitVec 8

/-- A 16-bit value (`00_scope.md` rules R5, R6). -/
abbrev Word := BitVec 16

end Sys2Proof
end

