-- ==== Sys2Proof/Machine/Flags.lean ====
section
/-! DEFINITION. The flags byte `F` (`10_state.md` rules R23, R24) and every flag computation of the instruction rules, each as a
function from the old byte to the new one. A computation writes exactly the bits its rule lists; bits 5 and 3 are
storage no computation writes. The computations are the spec's literal ones and not the Zilog part's (`00_scope.md`
rule R2). -/

namespace Sys2Proof.Machine

/-- The six named flags (`10_state.md` rule R23). -/
inductive Flag where
  | S | Z | H | PV | N | C
  deriving DecidableEq, Repr

/-- The bit of `F` a flag is (`10_state.md` rule R23). -/
def Flag.bit : Flag → Nat
  | .S => 7
  | .Z => 6
  | .H => 4
  | .PV => 2
  | .N => 1
  | .C => 0

/-- The mask of a flag (`10_state.md` rule R23). -/
def Flag.mask (fl : Flag) : Byte := 1#8 <<< fl.bit

/-- Read one flag of the byte `F`. -/
def Flag.get (fl : Flag) (f : Byte) : Bool := f.getLsbD fl.bit

/-- `flag.X <- b`: write that one bit of `F` and no other (`10_state.md` rule R24). -/
def Flag.put (fl : Flag) (b : Bool) (f : Byte) : Byte :=
  if b then f ||| fl.mask else f &&& ~~~fl.mask

/-- `INC r`: `PV`, `H`, `N` (`40_incdec_arith16.md` rule R120). -/
def incFlags (old res f : Byte) : Byte :=
  Flag.put .N false (Flag.put .H (old &&& 0x0F == 0x0F) (Flag.put .PV res.msb f))

/-- `DEC r`: `PV`, `H`, `N`, `Z`, `S` (`40_incdec_arith16.md` rule R121). -/
def decFlags (old res f : Byte) : Byte :=
  Flag.put .S res.msb (Flag.put .Z (res == 0) (Flag.put .N true
    (Flag.put .H (old &&& 0x0F == 0x00) (Flag.put .PV res.msb f))))

/-- `INC rr`, `INC IX`: `N` (`40_incdec_arith16.md` rule R122). -/
def incPairFlags (f : Byte) : Byte := Flag.put .N false f

/-- `DEC rr`, `DEC IX`: `N` (`40_incdec_arith16.md` rule R123). -/
def decPairFlags (f : Byte) : Byte := Flag.put .N true f

/-- `ADD HL,rr`, `ADD IX,pp`: `C` from the 17-bit sum, `H` from bit 3 of both operands, `N` set
(`40_incdec_arith16.md` rule R124). -/
def addPairFlags (a b : Word) (f : Byte) : Byte :=
  Flag.put .N true (Flag.put .H (a.getLsbD 3 && b.getLsbD 3)
    (Flag.put .C (decide (a.toNat + b.toNat > 0xFFFF)) f))

/-- `RLCA`, `SRL r`: `C`, the bit that left the register (`43_rotate_shift.md` rules R160, R161). -/
def shiftFlags (out : Bool) (f : Byte) : Byte := Flag.put .C out f

/-- `SetZSP`: `Z` and `S` of the result, `PV` of the OPERAND's bit 7 (`44_accumulator.md` rule R170). -/
def setZSP (res v f : Byte) : Byte :=
  Flag.put .PV v.msb (Flag.put .S res.msb (Flag.put .Z (res == 0) f))

/-- `AND s`: `SetZSP`, then `C = 0`, `N = 0`, `H = 1` (`44_accumulator.md` rule R171). -/
def andFlags (res v f : Byte) : Byte :=
  Flag.put .H true (Flag.put .N false (Flag.put .C false (setZSP res v f)))

/-- `OR s`, `XOR s`: `SetZSP`, then `H = 0`, `C = 0`, `N = 0` (`44_accumulator.md` rules R172, R173). -/
def orFlags (res v f : Byte) : Byte :=
  Flag.put .N false (Flag.put .C false (Flag.put .H false (setZSP res v f)))

end Sys2Proof.Machine
end

