-- ==== Sys2Proof/Config.lean ====
section
/-! DEFINITION. The open parameters of the core (`00_scope.md` rule R5): the byte order of a 16-bit immediate,
the reset fill of memory, the cycle table, and the port oracle. The first three are plain data that a state
carries in one field no step changes, so that a statement over all states holds for every value of them
(logs 1, 2, 7); the oracle is an opaque constant (log 3). -/

namespace Sys2Proof

/-- `IMM16_ORDER`: which of the two operand bytes of a 16-bit immediate is the high one
(`30_encoding.md` rule R88; open, D3). -/
inductive Imm16Order where
  | highFirst   -- the byte at the lower address is the high byte: the spec's default
  | lowFirst    -- the byte at the lower address is the low byte: the Zilog order
  deriving DecidableEq, Repr

/-- The two cycle costs of a conditional form (`70_reset_and_hazards.md` rules R301, R302). -/
structure BranchCost where
  taken    : Nat
  notTaken : Nat
  deriving DecidableEq, Repr

/-- The cost of a conditional form on the path it took. -/
def BranchCost.of (b : BranchCost) (took : Bool) : Nat := if took then b.taken else b.notTaken

/-- `CYCLES`: one entry per form of the table of `70_reset_and_hazards.md` rule R301. `LDIR` has no entry: its
cost is the formula of rule R302. -/
structure CycleTable where
  ldRR     : Nat          -- LD r,r'
  ldRN     : Nat          -- LD r,n
  ldRiHL   : Nat          -- LD r,(HL)
  ldiHLR   : Nat          -- LD (HL),r
  ldAiRR   : Nat          -- LD A,(BC) and LD A,(DE)
  ldiRRA   : Nat          -- LD (BC),A and LD (DE),A
  ldRRnn   : Nat          -- LD rr,nn
  ldinnA   : Nat          -- LD (nn),A
  ldinnHL  : Nat          -- LD (nn),HL
  ldHLinn  : Nat          -- LD HL,(nn)
  incR     : Nat
  decR     : Nat
  incRR    : Nat
  decRR    : Nat
  addHL    : Nat
  push     : Nat
  pop      : Nat
  rlca     : Nat
  srl      : Nat
  aluR     : Nat          -- AND, OR, XOR, CP, SUB, SBC with a register
  aluiHL   : Nat          -- AND, OR, XOR with (HL)
  cpN      : Nat
  jp       : Nat
  jpCc     : BranchCost
  call     : Nat
  callCc   : BranchCost
  ret      : Nat
  retCc    : BranchCost
  jr       : Nat
  jrCc     : BranchCost
  djnz     : BranchCost
  exchange : Nat          -- EX AF,AF', EXX, EX DE,HL
  diEi     : Nat
  im       : Nat
  portIO   : Nat          -- OUT (C),r and IN A,(C)
  ldIXnn   : Nat
  incDecIX : Nat
  addIX    : Nat
  pushIX   : Nat
  popIX    : Nat
  ldIXmem  : Nat          -- LD (nn),IX and LD IX,(nn)
  deriving DecidableEq, Repr

/-- The open parameters a machine is built with. -/
structure Config where
  imm16Order : Imm16Order
  memFill    : Byte
  cycles     : CycleTable
  deriving DecidableEq, Repr

/-- One call at the port interface (`20_memory.md` rules R58, R59). -/
inductive PortEvent where
  | read (port : Word) (answer : Byte)
  | write (port : Word) (value : Byte)
  deriving DecidableEq, Repr

/-- The port oracle (`20_memory.md` rule R58; open, D22): the environment's answer to a port read, as a free
value. It may depend on which draw this is, on every earlier port call and on the port; nothing is known of it. -/
opaque Config.portRead : (draw : Nat) → (history : List PortEvent) → (port : Word) → Byte

end Sys2Proof
end

