-- ==== Sys2Proof/Machine/Defaults.lean ====
section
/-! DEFINITION. The configuration of `State.reset`: the default cycle table (`70_reset_and_hazards.md` rule R301), the default
byte order (`30_encoding.md` rule R88) and a fill byte (`20_memory.md` rule R61). -/

namespace Sys2Proof

/-- The default table of `70_reset_and_hazards.md` rule R301. PRESUMED: the spec marks it as general knowledge
of the Zilog part, not in its source (log 7). -/
def CycleTable.zilog : CycleTable where
  ldRR := 4
  ldRN := 7
  ldRiHL := 7
  ldiHLR := 7
  ldAiRR := 7
  ldiRRA := 7
  ldRRnn := 10
  ldinnA := 13
  ldinnHL := 16
  ldHLinn := 16
  incR := 4
  decR := 4
  incRR := 6
  decRR := 6
  addHL := 11
  push := 11
  pop := 10
  rlca := 4
  srl := 8
  aluR := 4
  aluiHL := 7
  cpN := 7
  jp := 10
  jpCc := ⟨10, 10⟩
  call := 17
  callCc := ⟨17, 10⟩
  ret := 10
  retCc := ⟨11, 5⟩
  jr := 12
  jrCc := ⟨12, 7⟩
  djnz := ⟨13, 8⟩
  exchange := 4
  diEi := 4
  im := 8
  portIO := 12
  ldIXnn := 14
  incDecIX := 10
  addIX := 15
  pushIX := 15
  popIX := 14
  ldIXmem := 20

/-- The configuration of `State.reset`: the spec's default order and cycle table, and a fill byte of the model's
choosing (DESIGN CHOICE: the spec leaves `MEM_FILL` open and forbids assuming 0x00 or 0xFF; log 2). -/
def Config.standard : Config where
  imm16Order := .highFirst
  memFill := 0x76
  cycles := .zilog

end Sys2Proof
end

