-- ==== Sys2Proof/Syntax.lean ====
section
/-! DEFINITION. The syntax of the catalog: the namespaces, formats and operand classes of `30_encoding.md`, and
`Instr`, one constructor per row of `spec/opcode_table.json`. A row is one exact (namespace, opcode) pair (rule R99), so a
constructor's only arguments are the operand bytes `o1`, `o2` in memory order (rule R86); the names spell the Zilog
mnemonic, with `i` before an operand in parentheses. The selectors at the end name the rows of one shape by their
operand. -/

namespace Sys2Proof

/-- The four disjoint opcode maps (`30_encoding.md` rule R82). -/
inductive Namespace where
  | basic      -- no prefix
  | extended   -- 0xED
  | bit        -- 0xCB
  | index      -- 0xDD
  deriving DecidableEq, Repr

/-- A (namespace, opcode byte) pair with no instruction: what the fatal stop records (`60_exceptions.md` rule R261). -/
structure Unmapped where
  ns   : Namespace
  byte : Byte
  deriving DecidableEq, Repr

/-- The formats of `30_encoding.md` rule R80; `P1` is listed there although no instruction uses it. -/
inductive Format where
  | B0 | B1 | B2 | P0 | P1 | P2
  deriving DecidableEq, Repr

/-- The length in bytes of a format (`30_encoding.md` rules R80, R84). -/
def Format.length : Format → Nat
  | .B0 => 1
  | .B1 => 2
  | .B2 => 3
  | .P0 => 2
  | .P1 => 3
  | .P2 => 4

/-- The 8-bit general registers an instruction names (`10_state.md` rules R20, R21). -/
inductive Reg where
  | B | C | D | E | H | L | A
  deriving DecidableEq, Repr

/-- The register pairs of `00_scope.md` rule R7 (`10_state.md` rules R22, R31). -/
inductive Pair where
  | BC | DE | HL | AF | IX
  deriving DecidableEq, Repr

/-- The pairs that only address memory: `LD A,(BC)`, `LD A,(DE)`, `LD (BC),A`, `LD (DE),A` (`41_load.md` rules R134, R135). -/
inductive PtrPair where
  | BC | DE
  deriving DecidableEq, Repr

/-- The field `rr` (`30_encoding.md` rule R89). -/
inductive Rr where
  | BC | DE | HL
  deriving DecidableEq, Repr

/-- The field `qq` (`30_encoding.md` rule R89). -/
inductive Qq where
  | BC | DE | HL | AF
  deriving DecidableEq, Repr

/-- The field `pp` (`30_encoding.md` rule R89). -/
inductive Pp where
  | BC | DE | IX
  deriving DecidableEq, Repr

/-- The operand `s` of `AND`, `OR`, `XOR`: a register, or the byte addressed by `HL` (`44_accumulator.md` rule R178). -/
inductive Src where
  | reg (r : Reg)
  | iHL
  deriving DecidableEq, Repr

/-- The eight conditions `cc` (`30_encoding.md` rule R100). -/
inductive Cond where
  | NZ | Z | NC | C | PO | PE | P | M
  deriving DecidableEq, Repr

/-- The four conditions `cc'` of a relative jump (`30_encoding.md` rule R89). -/
inductive RelCond where
  | NZ | Z | NC | C
  deriving DecidableEq, Repr

/-- The interrupt-mode selector `im`: 0, 1 or 2, "it can hold no other value" (`10_state.md` rule R34). -/
inductive IntMode where
  | im0 | im1 | im2
  deriving DecidableEq, Repr

def PtrPair.pair : PtrPair → Pair
  | .BC => .BC
  | .DE => .DE

def Rr.pair : Rr → Pair
  | .BC => .BC
  | .DE => .DE
  | .HL => .HL

def Qq.pair : Qq → Pair
  | .BC => .BC
  | .DE => .DE
  | .HL => .HL
  | .AF => .AF

def Pp.pair : Pp → Pair
  | .BC => .BC
  | .DE => .DE
  | .IX => .IX

def RelCond.cond : RelCond → Cond
  | .NZ => .NZ
  | .Z => .Z
  | .NC => .NC
  | .C => .C

/-- One instruction: one constructor per row of the opcode table (`30_encoding.md` rules R90 to R94). -/
inductive Instr where
  | ld_BC_nn (o1 o2 : Byte)
  | ld_iBC_A
  | inc_BC
  | inc_B
  | dec_B
  | ld_B_n (o1 : Byte)
  | rlca
  | ex_AF
  | add_HL_BC
  | ld_A_iBC
  | dec_BC
  | inc_C
  | dec_C
  | ld_C_n (o1 : Byte)
  | djnz_e (o1 : Byte)
  | ld_DE_nn (o1 o2 : Byte)
  | ld_iDE_A
  | inc_DE
  | inc_D
  | dec_D
  | ld_D_n (o1 : Byte)
  | jr_e (o1 : Byte)
  | add_HL_DE
  | ld_A_iDE
  | dec_DE
  | inc_E
  | dec_E
  | ld_E_n (o1 : Byte)
  | jr_NZ_e (o1 : Byte)
  | ld_HL_nn (o1 o2 : Byte)
  | ld_inn_HL (o1 o2 : Byte)
  | inc_HL
  | inc_H
  | dec_H
  | ld_H_n (o1 : Byte)
  | jr_Z_e (o1 : Byte)
  | add_HL_HL
  | ld_HL_inn (o1 o2 : Byte)
  | dec_HL
  | inc_L
  | dec_L
  | ld_L_n (o1 : Byte)
  | jr_NC_e (o1 : Byte)
  | ld_inn_A (o1 o2 : Byte)
  | jr_C_e (o1 : Byte)
  | inc_A
  | dec_A
  | ld_A_n (o1 : Byte)
  | ld_B_B
  | ld_B_C
  | ld_B_D
  | ld_B_E
  | ld_B_H
  | ld_B_L
  | ld_B_iHL
  | ld_B_A
  | ld_C_B
  | ld_C_C
  | ld_C_D
  | ld_C_E
  | ld_C_H
  | ld_C_L
  | ld_C_iHL
  | ld_C_A
  | ld_D_B
  | ld_D_C
  | ld_D_D
  | ld_D_E
  | ld_D_H
  | ld_D_L
  | ld_D_iHL
  | ld_D_A
  | ld_E_B
  | ld_E_C
  | ld_E_D
  | ld_E_E
  | ld_E_H
  | ld_E_L
  | ld_E_iHL
  | ld_E_A
  | ld_H_B
  | ld_H_C
  | ld_H_D
  | ld_H_E
  | ld_H_H
  | ld_H_L
  | ld_H_iHL
  | ld_H_A
  | ld_L_B
  | ld_L_C
  | ld_L_D
  | ld_L_E
  | ld_L_H
  | ld_L_L
  | ld_L_iHL
  | ld_L_A
  | ld_iHL_B
  | ld_iHL_C
  | ld_iHL_D
  | ld_iHL_E
  | ld_iHL_H
  | ld_iHL_L
  | ld_iHL_A
  | ld_A_B
  | ld_A_C
  | ld_A_D
  | ld_A_E
  | ld_A_H
  | ld_A_L
  | ld_A_iHL
  | ld_A_A
  | sub_B
  | sub_C
  | sub_D
  | sub_E
  | sub_H
  | sub_L
  | sub_A
  | sbc_A_B
  | sbc_A_C
  | sbc_A_D
  | sbc_A_E
  | sbc_A_H
  | sbc_A_L
  | sbc_A_A
  | and_B
  | and_C
  | and_D
  | and_E
  | and_H
  | and_L
  | and_iHL
  | and_A
  | xor_B
  | xor_C
  | xor_D
  | xor_E
  | xor_H
  | xor_L
  | xor_iHL
  | xor_A
  | or_B
  | or_C
  | or_D
  | or_E
  | or_H
  | or_L
  | or_iHL
  | or_A
  | cp_B
  | cp_C
  | cp_D
  | cp_E
  | cp_H
  | cp_L
  | cp_A
  | ret_NZ
  | pop_BC
  | jp_NZ_nn (o1 o2 : Byte)
  | jp_nn (o1 o2 : Byte)
  | call_NZ_nn (o1 o2 : Byte)
  | push_BC
  | ret_Z
  | ret
  | jp_Z_nn (o1 o2 : Byte)
  | call_Z_nn (o1 o2 : Byte)
  | call_nn (o1 o2 : Byte)
  | ret_NC
  | pop_DE
  | jp_NC_nn (o1 o2 : Byte)
  | call_NC_nn (o1 o2 : Byte)
  | push_DE
  | ret_C
  | exx
  | jp_C_nn (o1 o2 : Byte)
  | call_C_nn (o1 o2 : Byte)
  | ret_PO
  | pop_HL
  | jp_PO_nn (o1 o2 : Byte)
  | call_PO_nn (o1 o2 : Byte)
  | push_HL
  | ret_PE
  | jp_PE_nn (o1 o2 : Byte)
  | ex_DE_HL
  | call_PE_nn (o1 o2 : Byte)
  | ret_P
  | pop_AF
  | jp_P_nn (o1 o2 : Byte)
  | di
  | call_P_nn (o1 o2 : Byte)
  | push_AF
  | ret_M
  | jp_M_nn (o1 o2 : Byte)
  | ei
  | call_M_nn (o1 o2 : Byte)
  | cp_n (o1 : Byte)
  | out_iC_B
  | im_0
  | out_iC_C
  | out_iC_D
  | im_1
  | out_iC_E
  | im_2
  | out_iC_H
  | out_iC_L
  | in_A_iC
  | out_iC_A
  | ldir
  | srl_B
  | srl_C
  | srl_D
  | srl_E
  | srl_H
  | srl_L
  | srl_A
  | add_IX_BC
  | add_IX_DE
  | ld_IX_nn (o1 o2 : Byte)
  | ld_inn_IX (o1 o2 : Byte)
  | inc_IX
  | add_IX_IX
  | ld_IX_inn (o1 o2 : Byte)
  | dec_IX
  | pop_IX
  | push_IX
  deriving DecidableEq, Repr

namespace Instr

/-- `INC r` (R120). -/
def inc_r : Reg → Instr
  | .B => .inc_B
  | .C => .inc_C
  | .D => .inc_D
  | .E => .inc_E
  | .H => .inc_H
  | .L => .inc_L
  | .A => .inc_A

/-- `DEC r` (R121). -/
def dec_r : Reg → Instr
  | .B => .dec_B
  | .C => .dec_C
  | .D => .dec_D
  | .E => .dec_E
  | .H => .dec_H
  | .L => .dec_L
  | .A => .dec_A

/-- `INC rr` (R122). -/
def inc_rr : Rr → Instr
  | .BC => .inc_BC
  | .DE => .inc_DE
  | .HL => .inc_HL

/-- `DEC rr` (R123). -/
def dec_rr : Rr → Instr
  | .BC => .dec_BC
  | .DE => .dec_DE
  | .HL => .dec_HL

/-- `ADD HL,rr` (R124). -/
def add_HL_rr : Rr → Instr
  | .BC => .add_HL_BC
  | .DE => .add_HL_DE
  | .HL => .add_HL_HL

/-- `LD r,n` (R130). -/
def ld_r_n (o1 : Byte) : Reg → Instr
  | .B => .ld_B_n o1
  | .C => .ld_C_n o1
  | .D => .ld_D_n o1
  | .E => .ld_E_n o1
  | .H => .ld_H_n o1
  | .L => .ld_L_n o1
  | .A => .ld_A_n o1

/-- `LD rr,nn` (R136). -/
def ld_rr_nn (o1 : Byte) (o2 : Byte) : Rr → Instr
  | .BC => .ld_BC_nn o1 o2
  | .DE => .ld_DE_nn o1 o2
  | .HL => .ld_HL_nn o1 o2

/-- `LD r,r'` (R131): destination first. -/
def ld_r_r : Reg → Reg → Instr
  | .B, .B => .ld_B_B
  | .B, .C => .ld_B_C
  | .B, .D => .ld_B_D
  | .B, .E => .ld_B_E
  | .B, .H => .ld_B_H
  | .B, .L => .ld_B_L
  | .B, .A => .ld_B_A
  | .C, .B => .ld_C_B
  | .C, .C => .ld_C_C
  | .C, .D => .ld_C_D
  | .C, .E => .ld_C_E
  | .C, .H => .ld_C_H
  | .C, .L => .ld_C_L
  | .C, .A => .ld_C_A
  | .D, .B => .ld_D_B
  | .D, .C => .ld_D_C
  | .D, .D => .ld_D_D
  | .D, .E => .ld_D_E
  | .D, .H => .ld_D_H
  | .D, .L => .ld_D_L
  | .D, .A => .ld_D_A
  | .E, .B => .ld_E_B
  | .E, .C => .ld_E_C
  | .E, .D => .ld_E_D
  | .E, .E => .ld_E_E
  | .E, .H => .ld_E_H
  | .E, .L => .ld_E_L
  | .E, .A => .ld_E_A
  | .H, .B => .ld_H_B
  | .H, .C => .ld_H_C
  | .H, .D => .ld_H_D
  | .H, .E => .ld_H_E
  | .H, .H => .ld_H_H
  | .H, .L => .ld_H_L
  | .H, .A => .ld_H_A
  | .L, .B => .ld_L_B
  | .L, .C => .ld_L_C
  | .L, .D => .ld_L_D
  | .L, .E => .ld_L_E
  | .L, .H => .ld_L_H
  | .L, .L => .ld_L_L
  | .L, .A => .ld_L_A
  | .A, .B => .ld_A_B
  | .A, .C => .ld_A_C
  | .A, .D => .ld_A_D
  | .A, .E => .ld_A_E
  | .A, .H => .ld_A_H
  | .A, .L => .ld_A_L
  | .A, .A => .ld_A_A

/-- `LD r,(HL)` (R132). -/
def ld_r_iHL : Reg → Instr
  | .B => .ld_B_iHL
  | .C => .ld_C_iHL
  | .D => .ld_D_iHL
  | .E => .ld_E_iHL
  | .H => .ld_H_iHL
  | .L => .ld_L_iHL
  | .A => .ld_A_iHL

/-- `LD (HL),r` (R133). -/
def ld_iHL_r : Reg → Instr
  | .B => .ld_iHL_B
  | .C => .ld_iHL_C
  | .D => .ld_iHL_D
  | .E => .ld_iHL_E
  | .H => .ld_iHL_H
  | .L => .ld_iHL_L
  | .A => .ld_iHL_A

/-- `LD A,(BC)`, `LD A,(DE)` (R134). -/
def ld_A_irr : PtrPair → Instr
  | .BC => .ld_A_iBC
  | .DE => .ld_A_iDE

/-- `LD (BC),A`, `LD (DE),A` (R135). -/
def ld_irr_A : PtrPair → Instr
  | .BC => .ld_iBC_A
  | .DE => .ld_iDE_A

/-- `PUSH qq` (R151). -/
def push_qq : Qq → Instr
  | .BC => .push_BC
  | .DE => .push_DE
  | .HL => .push_HL
  | .AF => .push_AF

/-- `POP qq` (R152). -/
def pop_qq : Qq → Instr
  | .BC => .pop_BC
  | .DE => .pop_DE
  | .HL => .pop_HL
  | .AF => .pop_AF

/-- `SRL r` (R161). -/
def srl_r : Reg → Instr
  | .B => .srl_B
  | .C => .srl_C
  | .D => .srl_D
  | .E => .srl_E
  | .H => .srl_H
  | .L => .srl_L
  | .A => .srl_A

/-- `AND s` (R171). -/
def and_s : Src → Instr
  | .reg .B => .and_B
  | .reg .C => .and_C
  | .reg .D => .and_D
  | .reg .E => .and_E
  | .reg .H => .and_H
  | .reg .L => .and_L
  | .reg .A => .and_A
  | .iHL => .and_iHL

/-- `OR s` (R172). -/
def or_s : Src → Instr
  | .reg .B => .or_B
  | .reg .C => .or_C
  | .reg .D => .or_D
  | .reg .E => .or_E
  | .reg .H => .or_H
  | .reg .L => .or_L
  | .reg .A => .or_A
  | .iHL => .or_iHL

/-- `XOR s` (R173). -/
def xor_s : Src → Instr
  | .reg .B => .xor_B
  | .reg .C => .xor_C
  | .reg .D => .xor_D
  | .reg .E => .xor_E
  | .reg .H => .xor_H
  | .reg .L => .xor_L
  | .reg .A => .xor_A
  | .iHL => .xor_iHL

/-- `CP r` (R174). -/
def cp_r : Reg → Instr
  | .B => .cp_B
  | .C => .cp_C
  | .D => .cp_D
  | .E => .cp_E
  | .H => .cp_H
  | .L => .cp_L
  | .A => .cp_A

/-- `SUB r` (R176). -/
def sub_r : Reg → Instr
  | .B => .sub_B
  | .C => .sub_C
  | .D => .sub_D
  | .E => .sub_E
  | .H => .sub_H
  | .L => .sub_L
  | .A => .sub_A

/-- `SBC A,r` (R177). -/
def sbc_A_r : Reg → Instr
  | .B => .sbc_A_B
  | .C => .sbc_A_C
  | .D => .sbc_A_D
  | .E => .sbc_A_E
  | .H => .sbc_A_H
  | .L => .sbc_A_L
  | .A => .sbc_A_A

/-- `JP cc,nn` (R192). -/
def jp_cc (o1 : Byte) (o2 : Byte) : Cond → Instr
  | .NZ => .jp_NZ_nn o1 o2
  | .Z => .jp_Z_nn o1 o2
  | .NC => .jp_NC_nn o1 o2
  | .C => .jp_C_nn o1 o2
  | .PO => .jp_PO_nn o1 o2
  | .PE => .jp_PE_nn o1 o2
  | .P => .jp_P_nn o1 o2
  | .M => .jp_M_nn o1 o2

/-- `CALL cc,nn` (R194). -/
def call_cc (o1 : Byte) (o2 : Byte) : Cond → Instr
  | .NZ => .call_NZ_nn o1 o2
  | .Z => .call_Z_nn o1 o2
  | .NC => .call_NC_nn o1 o2
  | .C => .call_C_nn o1 o2
  | .PO => .call_PO_nn o1 o2
  | .PE => .call_PE_nn o1 o2
  | .P => .call_P_nn o1 o2
  | .M => .call_M_nn o1 o2

/-- `RET cc` (R196). -/
def ret_cc : Cond → Instr
  | .NZ => .ret_NZ
  | .Z => .ret_Z
  | .NC => .ret_NC
  | .C => .ret_C
  | .PO => .ret_PO
  | .PE => .ret_PE
  | .P => .ret_P
  | .M => .ret_M

/-- `JR cc',e` (R198). -/
def jr_cc (o1 : Byte) : RelCond → Instr
  | .NZ => .jr_NZ_e o1
  | .Z => .jr_Z_e o1
  | .NC => .jr_NC_e o1
  | .C => .jr_C_e o1

/-- `OUT (C),r` (R222). -/
def out_r : Reg → Instr
  | .B => .out_iC_B
  | .C => .out_iC_C
  | .D => .out_iC_D
  | .E => .out_iC_E
  | .H => .out_iC_H
  | .L => .out_iC_L
  | .A => .out_iC_A

/-- `IM 0`, `IM 1`, `IM 2` (R227). -/
def im_n : IntMode → Instr
  | .im0 => .im_0
  | .im1 => .im_1
  | .im2 => .im_2

/-- `ADD IX,pp` (R243). -/
def add_IX_pp : Pp → Instr
  | .BC => .add_IX_BC
  | .DE => .add_IX_DE
  | .IX => .add_IX_IX

end Instr

end Sys2Proof
end

