-- ==== Sys2Proof/Machine/State.lean ====
section
/-! DEFINITION. The state of the machine (`10_state.md`), as plain data, its reset (rule R37), and the reasons a step can
stop. INVENTORY.md lists every field with the rule that names it. -/

namespace Sys2Proof.Machine

/-- One bank of the register file: the accumulator, the flags byte and the six general registers
(`10_state.md` rules R20, R23, R25). -/
structure Bank where
  a : Byte
  f : Byte
  b : Byte
  c : Byte
  d : Byte
  e : Byte
  h : Byte
  l : Byte
  deriving DecidableEq, Repr

/-- Why the machine stops. -/
inductive Fault where
  /-- The fatal stop `UnmappedOpcode(ns, byte)` (`60_exceptions.md` rules R261 to R263). Raised by `step` at Dispatch, never by
  an instruction's meaning, and by every further step of a state that records it. Safe where the catalog is smaller
  than a real one: nothing more is claimed of such a run. -/
  | unmappedOpcode (ns : Namespace) (byte : Byte)
  deriving DecidableEq, Repr

/-- What the model or the host declines to do. -/
inductive Refusal where
  /-- An instruction without a meaning yet; raised only by an arm of `exec`. No arm does. Safe. -/
  | notModelled (mnemonic : String)
  /-- `BadRomSize`: the host refuses a ROM buffer whose length is neither 16 KiB nor 32 KiB (`20_memory.md` rule R62,
  `60_exceptions.md` rule R266). Raised by `State.placeRom` only, never by a step. Safe. -/
  | badRomSize (length : Nat)
  deriving DecidableEq, Repr

/-- The state of the core, its outputs (`ports`, `cycles`), the model's own fields for the port oracle (`draws`, `answers`)
and the configuration it was built with (`cfg`). -/
structure State where
  /-- The main set `A F B C D E H L` (`10_state.md` rule R20). -/
  main : Bank
  /-- The shadow set `A' F' B' C' D' E' H' L'` (`10_state.md` rule R25). -/
  shadow : Bank
  /-- The halves of `IX` and `IY` (`10_state.md` rule R31). -/
  ixh : Byte
  ixl : Byte
  iyh : Byte
  iyl : Byte
  /-- The program counter: between steps, the address of the next instruction's first byte (`10_state.md` rule R27). -/
  pc : Word
  /-- The stack pointer: the address of the last byte pushed (`10_state.md` rule R29). -/
  sp : Word
  /-- The interrupt flip-flops (`10_state.md` rule R33). -/
  iff1 : Bool
  iff2 : Bool
  /-- The interrupt-mode selector (`10_state.md` rule R34). -/
  im : IntMode
  /-- Memory in canonical form: addresses strictly rising, no byte equal to `cfg.memFill`, which an unlisted address
  reads as (`20_memory.md` rules R50, R61). -/
  mem : List Host.Cell
  /-- The fatal-stop record: none while running (`10_state.md` rules R37, R39). -/
  stop : Option Unmapped
  /-- The port history, oldest call first (`20_memory.md` rule R59, `60_exceptions.md` rule R262). -/
  ports : List PortEvent
  /-- The model's own: how many answers have been drawn from the port oracle (log 3). -/
  draws : Nat
  /-- The model's own: answers the environment has queued for the next port reads; when none is left the oracle
  answers (log 3). -/
  answers : List Byte
  /-- The cycle cost the last step reported: an output, read by nothing (`70_reset_and_hazards.md` rule R300). -/
  cycles : Nat
  /-- The open parameters, changed by nothing (`00_scope.md` rule R5). -/
  cfg : Config
  deriving DecidableEq, Repr

/-- A bank of zeros. -/
def Bank.zero : Bank := ⟨0, 0, 0, 0, 0, 0, 0, 0⟩

/-- The machine right after reset, built with a configuration (`10_state.md` rule R37, `70_reset_and_hazards.md` rule R290). -/
def State.resetWith (cfg : Config) : State where
  main := .zero
  shadow := .zero
  ixh := 0
  ixl := 0
  iyh := 0
  iyl := 0
  pc := 0x0000
  sp := 0xFFFF
  iff1 := false
  iff2 := false
  im := .im0
  mem := []
  stop := none
  ports := []
  draws := 0
  answers := []
  cycles := 0
  cfg := cfg

/-- The machine right after reset, with the standard configuration (logs 1, 2, 7). -/
def State.reset : State := .resetWith .standard

end Sys2Proof.Machine
end

