-- ==== Sys2Proof/Machine/Ops.lean ====
section
/-! DEFINITION. The named operations over memory and registers, the one home of every read and write: memory
(`20_memory.md`), registers and pairs (`10_state.md`), the stack primitives (`42_stack.md` rule R150), the port interface
(`20_memory.md` rules R57 to R59), the end of an instruction (`10_state.md` rule R28), and the fatal stop
(`60_exceptions.md` rules R261 to R263). -/

namespace Sys2Proof.Machine

/-- What a step or a meaning answers. -/
abbrev Result := Host.Outcome State Fault Refusal

/-! ### Bytes and words -/

/-- The high byte `v[15:8]` (`00_scope.md` rule R6). -/
def hiByte (v : Word) : Byte := v.extractLsb' 8 8

/-- The low byte `v[7:0]` (`00_scope.md` rule R6). -/
def loByte (v : Word) : Byte := v.extractLsb' 0 8

/-- `hi:lo`, the first-named byte in the high bits (`00_scope.md` rule R6). -/
def join (hi lo : Byte) : Word := hi ++ lo

/-! ### Memory as a list of cells -/

/-- The byte at an address; an unlisted address reads as the fill byte (`20_memory.md` rules R51, R61). -/
def Memory.read (fill : Byte) (a : Nat) : List Host.Cell → Byte
  | [] => fill
  | c :: m => if c.1 = a then c.2 else Memory.read fill a m

/-- The memory with no cell listed at an address. -/
def Memory.erase (a : Nat) (m : List Host.Cell) : List Host.Cell := m.filter fun c => c.1 != a

/-- Put a cell before the first one of a greater address. -/
def Memory.insert (c : Host.Cell) : List Host.Cell → List Host.Cell
  | [] => [c]
  | d :: m => if c.1 < d.1 then c :: d :: m else d :: Memory.insert c m

/-- Store a byte and no other (`20_memory.md` rule R52); a byte equal to the fill is not listed. -/
def Memory.write (fill : Byte) (a : Nat) (v : Byte) (m : List Host.Cell) : List Host.Cell :=
  if v = fill then Memory.erase a m else Memory.insert (a, v) (Memory.erase a m)

/-- The canonical form: addresses strictly rising and inside the 65536-byte space (`20_memory.md` rule R50), and no cell equal
to the fill. -/
abbrev Memory.wf (fill : Byte) (m : List Host.Cell) : Prop :=
  m.Pairwise (fun c d => c.1 < d.1) ∧ ∀ c ∈ m, c.1 < 65536 ∧ c.2 ≠ fill

/-! ### Registers and pairs of a bank -/

/-- `r[X]` for a general register (`10_state.md` rules R20, R21). -/
def Bank.get (k : Bank) : Reg → Byte
  | .B => k.b
  | .C => k.c
  | .D => k.d
  | .E => k.e
  | .H => k.h
  | .L => k.l
  | .A => k.a

/-- `r[X] <- v` for a general register. -/
def Bank.set (k : Bank) (r : Reg) (v : Byte) : Bank :=
  match r with
  | .B => { k with b := v }
  | .C => { k with c := v }
  | .D => { k with d := v }
  | .E => { k with e := v }
  | .H => { k with h := v }
  | .L => { k with l := v }
  | .A => { k with a := v }

namespace State

/-! ### Memory of a state -/

/-- `MemRead(addr, 1)` (`20_memory.md` rule R51). -/
def readByte (s : State) (a : Word) : Byte := Memory.read s.cfg.memFill a.toNat s.mem

/-- `MemWrite(addr, 1, v)` (`20_memory.md` rule R52). -/
def writeByte (s : State) (a : Word) (v : Byte) : State :=
  { s with mem := Memory.write s.cfg.memFill a.toNat v s.mem }

/-! ### Registers of a state -/

/-- `r[X]` (`00_scope.md` rule R7). -/
def reg (s : State) (r : Reg) : Byte := s.main.get r

/-- `r[X] <- v` (`00_scope.md` rule R7). -/
def setReg (s : State) (r : Reg) (v : Byte) : State := { s with main := s.main.set r v }

/-- `r[F] <- v`, the whole flags byte. -/
def setF (s : State) (v : Byte) : State := { s with main := { s.main with f := v } }

/-- One flag of `F` (`10_state.md` rule R23). -/
def flag (s : State) (fl : Flag) : Bool := fl.get s.main.f

/-- `rp[XY]`: the first-named register is the high byte (`10_state.md` rules R22, R31). -/
def pair (s : State) : Pair → Word
  | .BC => join s.main.b s.main.c
  | .DE => join s.main.d s.main.e
  | .HL => join s.main.h s.main.l
  | .AF => join s.main.a s.main.f
  | .IX => join s.ixh s.ixl

/-- `rp[XY] <- v`: writing a pair writes its two registers (`10_state.md` rule R22, `00_scope.md` rule R7). -/
def setPair (s : State) (p : Pair) (v : Word) : State :=
  match p with
  | .BC => { s with main := { s.main with b := hiByte v, c := loByte v } }
  | .DE => { s with main := { s.main with d := hiByte v, e := loByte v } }
  | .HL => { s with main := { s.main with h := hiByte v, l := loByte v } }
  | .AF => { s with main := { s.main with a := hiByte v, f := loByte v } }
  | .IX => { s with ixh := hiByte v, ixl := loByte v }

/-! ### The stack (`42_stack.md` rule R150) -/

/-- `Push16(v)`: the high byte at `sp - 1`, then the low byte at `sp - 2`; `sp` is decremented before each write. -/
def push16 (s : State) (v : Word) : State :=
  let s1 := { s with sp := s.sp - 1 }
  let s2 := s1.writeByte s1.sp (hiByte v)
  let s3 := { s2 with sp := s2.sp - 1 }
  s3.writeByte s3.sp (loByte v)

/-- `Pop16()`: the low byte at `sp`, then the high byte at `sp + 1`; `sp` is incremented after each read. -/
def pop16 (s : State) : Word × State :=
  let lo := s.readByte s.sp
  let s1 := { s with sp := s.sp + 1 }
  let hi := s1.readByte s1.sp
  let s2 := { s1 with sp := s1.sp + 1 }
  (join hi lo, s2)

/-! ### The port interface (`20_memory.md` rules R57 to R59) -/

/-- `PortWrite(port, v)`: hand the pair to the environment; only the port history grows (rule R59). -/
def portWrite (s : State) (port : Word) (v : Byte) : State :=
  { s with ports := s.ports ++ [.write port v] }

/-- What `PortRead(port)` answers (rule R58): the next queued answer of the environment, or a draw of the oracle. -/
def portAnswer (s : State) (port : Word) : Byte :=
  match s.answers with
  | v :: _ => v
  | [] => Config.portRead s.draws s.ports port

/-- The state after `PortRead(port)` answered `v`: the history grows, one answer is used up. -/
def portRead (s : State) (port : Word) (v : Byte) : State :=
  { s with ports := s.ports ++ [.read port v], answers := s.answers.tail, draws := s.draws + 1 }

/-! ### The end of an instruction (`10_state.md` rule R28) -/

/-- `pc_next = (pc0 + length) mod 65536`, while `pc` still holds `pc0`. -/
def pcNext (s : State) (fmt : Format) : Word := s.pc + BitVec.ofNat 16 fmt.length

/-- Retire: `pc <- pc_next`, and report the cycle cost (`30_encoding.md` rule R81, `70_reset_and_hazards.md` rule R300). -/
def retire (s : State) (fmt : Format) (cost : Nat) : State :=
  { s with pc := s.pcNext fmt, cycles := cost }

/-- A taken control transfer: `pc` is exactly the target and Retire adds nothing (`10_state.md` rule R28). -/
def jump (s : State) (target : Word) (cost : Nat) : State := { s with pc := target, cycles := cost }

/-! ### Instruction fetch -/

/-- The byte `k` places after `pc`, its address mod 65536 (`30_encoding.md` rules R81, R86). -/
def fetchByte (s : State) (k : Nat) : Byte := s.readByte (s.pc + BitVec.ofNat 16 k)

/-! ### The fatal stop (`60_exceptions.md` rules R261 to R263) -/

/-- The stopped state: the record is set and nothing else has changed, `pc = pc0` included (rule R262). -/
def recordStop (s : State) (u : Unmapped) : State := { s with stop := some u }

end State

/-- Taking the one exception, `UnmappedOpcode(ns, byte)`: a fault that carries the recorded pair and has no next state
(rules R261, R263). There is no handler and no return from it (rule R272). -/
def raiseUnmapped (u : Unmapped) : Result := .fault (.unmappedOpcode u.ns u.byte)

end Sys2Proof.Machine
end

