-- ==== Sys2Proof/Machine/Operands.lean ====
section
/-! DEFINITION. The operand forms (`30_encoding.md` sections 2 and 3): immediates, displacements, relative targets, the source
operand of the logical operations, the conditions, and the port address. A register operand is `State.reg`, a pair is
`State.pair`. -/

namespace Sys2Proof.Machine

/-- `imm16(o1, o2)` under `IMM16_ORDER` (`30_encoding.md` rule R88): the one place the byte order of a 16-bit immediate is decided. -/
def imm16 (order : Imm16Order) (o1 o2 : Byte) : Word :=
  match order with
  | .highFirst => join o1 o2
  | .lowFirst => join o2 o1

/-- The displacement `e = sext_16(o1)`, two's complement and not scaled (`30_encoding.md` rule R87). -/
def displacement (o1 : Byte) : Word := o1.signExtend 16

/-- The operand `s` of `AND`, `OR`, `XOR`: a register, or the byte at `rp[HL]` (`44_accumulator.md` rules R171, R178). -/
def srcValue (s : State) : Src → Byte
  | .reg r => s.reg r
  | .iHL => s.readByte (s.pair .HL)

/-- `cond(cc)` on the flags byte (`30_encoding.md` rule R100, `45_control.md` rule R190). -/
def condHolds (cc : Cond) (f : Byte) : Bool :=
  match cc with
  | .NZ => !Flag.get .Z f
  | .Z => Flag.get .Z f
  | .NC => !Flag.get .C f
  | .C => Flag.get .C f
  | .PO => !Flag.get .PV f
  | .PE => Flag.get .PV f
  | .P => !Flag.get .S f
  | .M => Flag.get .S f

namespace State

/-- The immediate `nn` of an instruction, in the state's byte order (`30_encoding.md` rule R88). -/
def imm (s : State) (o1 o2 : Byte) : Word := imm16 s.cfg.imm16Order o1 o2

/-- `cond(cc)` in a state (`45_control.md` rule R190). -/
def cond (s : State) (cc : Cond) : Bool := condHolds cc s.main.f

/-- The target of a relative jump of format B1: `(pc_next + sext_16(o1)) mod 65536` (`45_control.md` rule R197). -/
def relTarget (s : State) (o1 : Byte) : Word := s.pcNext .B1 + displacement o1

/-- The port address: all 16 bits of `BC`, `B` high (`20_memory.md` rule R57). -/
def port (s : State) : Word := s.pair .BC

end State

end Sys2Proof.Machine
end

