-- ==== Sys2Proof/Machine/Accum.lean ====
section
/-! DEFINITION. Accumulator operations (`44_accumulator.md`). `PV` is bit 7 of the operand; `CP`, `SUB`, `SBC` write none of `C`, `H`, `N` (rule R170). Each instruction has a meaning of its own over the shared operations. -/

namespace Sys2Proof.Machine

/-- `AND s` with the operand's value (rule R171). -/
def andA (v : Byte) (cost : Nat) (s : State) : Result :=
  let res := s.reg .A &&& v
  .next (((s.setReg .A res).setF (andFlags res v s.main.f)).retire .B0 cost)

/-- `OR s` with the operand's value (rule R172). -/
def orA (v : Byte) (cost : Nat) (s : State) : Result :=
  let res := s.reg .A ||| v
  .next (((s.setReg .A res).setF (orFlags res v s.main.f)).retire .B0 cost)

/-- `XOR s` with the operand's value (rule R173). -/
def xorA (v : Byte) (cost : Nat) (s : State) : Result :=
  let res := s.reg .A ^^^ v
  .next (((s.setReg .A res).setF (orFlags res v s.main.f)).retire .B0 cost)

/-- `CP r`, `CP n`: the flags of the wrapped difference, `A` not written (rules R174, R175). -/
def compareA (v : Byte) (fmt : Format) (cost : Nat) (s : State) : Result :=
  .next ((s.setF (setZSP (s.reg .A - v) v s.main.f)).retire fmt cost)

/-- `SUB r` (rule R176). -/
def subA (v : Byte) (s : State) : Result :=
  let res := s.reg .A - v
  .next (((s.setReg .A res).setF (setZSP res v s.main.f)).retire .B0 s.cfg.cycles.aluR)

/-- `SBC A,r`: the carry flag is read, subtracted once, and kept (rule R177). -/
def sbcA (v : Byte) (s : State) : Result :=
  let res := s.reg .A - v - BitVec.ofNat 8 (s.flag .C).toNat
  .next (((s.setReg .A res).setF (setZSP res v s.main.f)).retire .B0 s.cfg.cycles.aluR)

/-! ### The meanings -/

/-- `AND B` (rule R171). -/
def execAnd_B (s : State) : Result := andA (srcValue s (.reg .B)) s.cfg.cycles.aluR s

/-- `AND C` (rule R171). -/
def execAnd_C (s : State) : Result := andA (srcValue s (.reg .C)) s.cfg.cycles.aluR s

/-- `AND D` (rule R171). -/
def execAnd_D (s : State) : Result := andA (srcValue s (.reg .D)) s.cfg.cycles.aluR s

/-- `AND E` (rule R171). -/
def execAnd_E (s : State) : Result := andA (srcValue s (.reg .E)) s.cfg.cycles.aluR s

/-- `AND H` (rule R171). -/
def execAnd_H (s : State) : Result := andA (srcValue s (.reg .H)) s.cfg.cycles.aluR s

/-- `AND L` (rule R171). -/
def execAnd_L (s : State) : Result := andA (srcValue s (.reg .L)) s.cfg.cycles.aluR s

/-- `AND A` (rule R171). -/
def execAnd_A (s : State) : Result := andA (srcValue s (.reg .A)) s.cfg.cycles.aluR s

/-- `AND (HL)` (rule R171). -/
def execAnd_iHL (s : State) : Result := andA (srcValue s .iHL) s.cfg.cycles.aluiHL s

/-- `OR B` (rule R172). -/
def execOr_B (s : State) : Result := orA (srcValue s (.reg .B)) s.cfg.cycles.aluR s

/-- `OR C` (rule R172). -/
def execOr_C (s : State) : Result := orA (srcValue s (.reg .C)) s.cfg.cycles.aluR s

/-- `OR D` (rule R172). -/
def execOr_D (s : State) : Result := orA (srcValue s (.reg .D)) s.cfg.cycles.aluR s

/-- `OR E` (rule R172). -/
def execOr_E (s : State) : Result := orA (srcValue s (.reg .E)) s.cfg.cycles.aluR s

/-- `OR H` (rule R172). -/
def execOr_H (s : State) : Result := orA (srcValue s (.reg .H)) s.cfg.cycles.aluR s

/-- `OR L` (rule R172). -/
def execOr_L (s : State) : Result := orA (srcValue s (.reg .L)) s.cfg.cycles.aluR s

/-- `OR A` (rule R172). -/
def execOr_A (s : State) : Result := orA (srcValue s (.reg .A)) s.cfg.cycles.aluR s

/-- `OR (HL)` (rule R172). -/
def execOr_iHL (s : State) : Result := orA (srcValue s .iHL) s.cfg.cycles.aluiHL s

/-- `XOR B` (rule R173). -/
def execXor_B (s : State) : Result := xorA (srcValue s (.reg .B)) s.cfg.cycles.aluR s

/-- `XOR C` (rule R173). -/
def execXor_C (s : State) : Result := xorA (srcValue s (.reg .C)) s.cfg.cycles.aluR s

/-- `XOR D` (rule R173). -/
def execXor_D (s : State) : Result := xorA (srcValue s (.reg .D)) s.cfg.cycles.aluR s

/-- `XOR E` (rule R173). -/
def execXor_E (s : State) : Result := xorA (srcValue s (.reg .E)) s.cfg.cycles.aluR s

/-- `XOR H` (rule R173). -/
def execXor_H (s : State) : Result := xorA (srcValue s (.reg .H)) s.cfg.cycles.aluR s

/-- `XOR L` (rule R173). -/
def execXor_L (s : State) : Result := xorA (srcValue s (.reg .L)) s.cfg.cycles.aluR s

/-- `XOR A` (rule R173). -/
def execXor_A (s : State) : Result := xorA (srcValue s (.reg .A)) s.cfg.cycles.aluR s

/-- `XOR (HL)` (rule R173). -/
def execXor_iHL (s : State) : Result := xorA (srcValue s .iHL) s.cfg.cycles.aluiHL s

/-- `CP B` (rule R174). -/
def execCp_B (s : State) : Result := compareA (s.reg .B) .B0 s.cfg.cycles.aluR s

/-- `CP C` (rule R174). -/
def execCp_C (s : State) : Result := compareA (s.reg .C) .B0 s.cfg.cycles.aluR s

/-- `CP D` (rule R174). -/
def execCp_D (s : State) : Result := compareA (s.reg .D) .B0 s.cfg.cycles.aluR s

/-- `CP E` (rule R174). -/
def execCp_E (s : State) : Result := compareA (s.reg .E) .B0 s.cfg.cycles.aluR s

/-- `CP H` (rule R174). -/
def execCp_H (s : State) : Result := compareA (s.reg .H) .B0 s.cfg.cycles.aluR s

/-- `CP L` (rule R174). -/
def execCp_L (s : State) : Result := compareA (s.reg .L) .B0 s.cfg.cycles.aluR s

/-- `CP A` (rule R174). -/
def execCp_A (s : State) : Result := compareA (s.reg .A) .B0 s.cfg.cycles.aluR s

/-- `CP n` (rule R175). -/
def execCp_n (o1 : Byte) (s : State) : Result := compareA o1 .B1 s.cfg.cycles.cpN s

/-- `SUB B` (rule R176). -/
def execSub_B (s : State) : Result := subA (s.reg .B) s

/-- `SUB C` (rule R176). -/
def execSub_C (s : State) : Result := subA (s.reg .C) s

/-- `SUB D` (rule R176). -/
def execSub_D (s : State) : Result := subA (s.reg .D) s

/-- `SUB E` (rule R176). -/
def execSub_E (s : State) : Result := subA (s.reg .E) s

/-- `SUB H` (rule R176). -/
def execSub_H (s : State) : Result := subA (s.reg .H) s

/-- `SUB L` (rule R176). -/
def execSub_L (s : State) : Result := subA (s.reg .L) s

/-- `SUB A` (rule R176). -/
def execSub_A (s : State) : Result := subA (s.reg .A) s

/-- `SBC A,B` (rule R177). -/
def execSbc_A_B (s : State) : Result := sbcA (s.reg .B) s

/-- `SBC A,C` (rule R177). -/
def execSbc_A_C (s : State) : Result := sbcA (s.reg .C) s

/-- `SBC A,D` (rule R177). -/
def execSbc_A_D (s : State) : Result := sbcA (s.reg .D) s

/-- `SBC A,E` (rule R177). -/
def execSbc_A_E (s : State) : Result := sbcA (s.reg .E) s

/-- `SBC A,H` (rule R177). -/
def execSbc_A_H (s : State) : Result := sbcA (s.reg .H) s

/-- `SBC A,L` (rule R177). -/
def execSbc_A_L (s : State) : Result := sbcA (s.reg .L) s

/-- `SBC A,A` (rule R177). -/
def execSbc_A_A (s : State) : Result := sbcA (s.reg .A) s

end Sys2Proof.Machine
end

