-- ==== Sys2Proof/Machine/Arith.lean ====
section
/-! DEFINITION. Increment, decrement and 16-bit pair arithmetic (`40_incdec_arith16.md`). No instruction here raises anything. Each instruction has a meaning of its own over the shared operations. -/

namespace Sys2Proof.Machine

/-- `INC r`: the register plus one mod 256, with `PV`, `H`, `N` written (rule R120). -/
def incReg (r : Reg) (s : State) : Result :=
  let res := s.reg r + 1
  .next (((s.setReg r res).setF (incFlags (s.reg r) res s.main.f)).retire .B0 s.cfg.cycles.incR)

/-- `DEC r`: the register minus one mod 256, with `PV`, `H`, `N`, `Z`, `S` written (rule R121). -/
def decReg (r : Reg) (s : State) : Result :=
  let res := s.reg r - 1
  .next (((s.setReg r res).setF (decFlags (s.reg r) res s.main.f)).retire .B0 s.cfg.cycles.decR)

/-- `INC rr`, `INC IX`: the pair plus one mod 65536, `N` cleared (rules R122, R241). -/
def incPair (p : Pair) (fmt : Format) (cost : Nat) (s : State) : Result :=
  .next (((s.setPair p (s.pair p + 1)).setF (incPairFlags s.main.f)).retire fmt cost)

/-- `DEC rr`, `DEC IX`: the pair minus one mod 65536, `N` set (rules R123, R242). -/
def decPair (p : Pair) (fmt : Format) (cost : Nat) (s : State) : Result :=
  .next (((s.setPair p (s.pair p - 1)).setF (decPairFlags s.main.f)).retire fmt cost)

/-- `ADD HL,rr`, `ADD IX,pp`: the sum mod 65536, with `C`, `H`, `N` written (rules R124, R243). -/
def addPair (dst src : Pair) (fmt : Format) (cost : Nat) (s : State) : Result :=
  let a := s.pair dst
  let b := s.pair src
  .next (((s.setPair dst (a + b)).setF (addPairFlags a b s.main.f)).retire fmt cost)

/-! ### The meanings -/

/-- `INC B` (rule R120). -/
def execInc_B (s : State) : Result := incReg .B s

/-- `INC C` (rule R120). -/
def execInc_C (s : State) : Result := incReg .C s

/-- `INC D` (rule R120). -/
def execInc_D (s : State) : Result := incReg .D s

/-- `INC E` (rule R120). -/
def execInc_E (s : State) : Result := incReg .E s

/-- `INC H` (rule R120). -/
def execInc_H (s : State) : Result := incReg .H s

/-- `INC L` (rule R120). -/
def execInc_L (s : State) : Result := incReg .L s

/-- `INC A` (rule R120). -/
def execInc_A (s : State) : Result := incReg .A s

/-- `DEC B` (rule R121). -/
def execDec_B (s : State) : Result := decReg .B s

/-- `DEC C` (rule R121). -/
def execDec_C (s : State) : Result := decReg .C s

/-- `DEC D` (rule R121). -/
def execDec_D (s : State) : Result := decReg .D s

/-- `DEC E` (rule R121). -/
def execDec_E (s : State) : Result := decReg .E s

/-- `DEC H` (rule R121). -/
def execDec_H (s : State) : Result := decReg .H s

/-- `DEC L` (rule R121). -/
def execDec_L (s : State) : Result := decReg .L s

/-- `DEC A` (rule R121). -/
def execDec_A (s : State) : Result := decReg .A s

/-- `INC BC` (rule R122). -/
def execInc_BC (s : State) : Result := incPair .BC .B0 s.cfg.cycles.incRR s

/-- `INC DE` (rule R122). -/
def execInc_DE (s : State) : Result := incPair .DE .B0 s.cfg.cycles.incRR s

/-- `INC HL` (rule R122). -/
def execInc_HL (s : State) : Result := incPair .HL .B0 s.cfg.cycles.incRR s

/-- `DEC BC` (rule R123). -/
def execDec_BC (s : State) : Result := decPair .BC .B0 s.cfg.cycles.decRR s

/-- `DEC DE` (rule R123). -/
def execDec_DE (s : State) : Result := decPair .DE .B0 s.cfg.cycles.decRR s

/-- `DEC HL` (rule R123). -/
def execDec_HL (s : State) : Result := decPair .HL .B0 s.cfg.cycles.decRR s

/-- `ADD HL,BC` (rule R124). -/
def execAdd_HL_BC (s : State) : Result := addPair .HL .BC .B0 s.cfg.cycles.addHL s

/-- `ADD HL,DE` (rule R124). -/
def execAdd_HL_DE (s : State) : Result := addPair .HL .DE .B0 s.cfg.cycles.addHL s

/-- `ADD HL,HL` (rule R124). -/
def execAdd_HL_HL (s : State) : Result := addPair .HL .HL .B0 s.cfg.cycles.addHL s

end Sys2Proof.Machine
end

