-- ==== Sys2Proof/Machine/Control.lean ====
section
/-! DEFINITION. Control transfer (`45_control.md`). No instruction here writes a flag (rule R190). Each instruction has a meaning of its own over the shared operations. -/

namespace Sys2Proof.Machine

/-- `call`: push `pc_next` of the three-byte `CALL`, then `pc <- target` (rule R193). -/
def State.call (s : State) (target : Word) (cost : Nat) : State :=
  (s.push16 (s.pcNext .B2)).jump target cost

/-- A return: `pc <- Pop16()` (rule R195). -/
def State.ret (s : State) (cost : Nat) : State := s.pop16.2.jump s.pop16.1 cost

/-- `JP cc,nn`, `JR cc',e`: taken to the target, or on to `pc_next` (rules R192, R198). -/
def jumpIf (took : Bool) (target : Word) (fmt : Format) (cost : BranchCost) (s : State) : Result :=
  .next (if took then s.jump target (cost.of true) else s.retire fmt (cost.of false))

/-- `CALL cc,nn`: when not taken nothing is pushed (rule R194). -/
def callIf (took : Bool) (target : Word) (s : State) : Result :=
  .next (if took then s.call target (s.cfg.cycles.callCc.of true)
    else s.retire .B2 (s.cfg.cycles.callCc.of false))

/-- `RET cc`: when not taken `sp` is unchanged (rule R196). -/
def retIf (took : Bool) (s : State) : Result :=
  .next (if took then s.ret (s.cfg.cycles.retCc.of true) else s.retire .B0 (s.cfg.cycles.retCc.of false))

/-- `DJNZ e`: decrement `B` first, without flags, and branch while it is nonzero (rule R199). -/
def decBJump (o1 : Byte) (s : State) : Result :=
  let b := s.reg .B - 1
  jumpIf (b != 0) (s.relTarget o1) .B1 s.cfg.cycles.djnz (s.setReg .B b)

/-! ### The meanings -/

/-- `JP nn` (rule R191). -/
def execJp_nn (o1 o2 : Byte) (s : State) : Result := .next (s.jump (s.imm o1 o2) s.cfg.cycles.jp)

/-- `JP NZ,nn` (rule R192). -/
def execJp_NZ_nn (o1 o2 : Byte) (s : State) : Result := jumpIf (s.cond .NZ) (s.imm o1 o2) .B2 s.cfg.cycles.jpCc s

/-- `JP Z,nn` (rule R192). -/
def execJp_Z_nn (o1 o2 : Byte) (s : State) : Result := jumpIf (s.cond .Z) (s.imm o1 o2) .B2 s.cfg.cycles.jpCc s

/-- `JP NC,nn` (rule R192). -/
def execJp_NC_nn (o1 o2 : Byte) (s : State) : Result := jumpIf (s.cond .NC) (s.imm o1 o2) .B2 s.cfg.cycles.jpCc s

/-- `JP C,nn` (rule R192). -/
def execJp_C_nn (o1 o2 : Byte) (s : State) : Result := jumpIf (s.cond .C) (s.imm o1 o2) .B2 s.cfg.cycles.jpCc s

/-- `JP PO,nn` (rule R192). -/
def execJp_PO_nn (o1 o2 : Byte) (s : State) : Result := jumpIf (s.cond .PO) (s.imm o1 o2) .B2 s.cfg.cycles.jpCc s

/-- `JP PE,nn` (rule R192). -/
def execJp_PE_nn (o1 o2 : Byte) (s : State) : Result := jumpIf (s.cond .PE) (s.imm o1 o2) .B2 s.cfg.cycles.jpCc s

/-- `JP P,nn` (rule R192). -/
def execJp_P_nn (o1 o2 : Byte) (s : State) : Result := jumpIf (s.cond .P) (s.imm o1 o2) .B2 s.cfg.cycles.jpCc s

/-- `JP M,nn` (rule R192). -/
def execJp_M_nn (o1 o2 : Byte) (s : State) : Result := jumpIf (s.cond .M) (s.imm o1 o2) .B2 s.cfg.cycles.jpCc s

/-- `CALL nn` (rule R193). -/
def execCall_nn (o1 o2 : Byte) (s : State) : Result := .next (s.call (s.imm o1 o2) s.cfg.cycles.call)

/-- `CALL NZ,nn` (rule R194). -/
def execCall_NZ_nn (o1 o2 : Byte) (s : State) : Result := callIf (s.cond .NZ) (s.imm o1 o2) s

/-- `CALL Z,nn` (rule R194). -/
def execCall_Z_nn (o1 o2 : Byte) (s : State) : Result := callIf (s.cond .Z) (s.imm o1 o2) s

/-- `CALL NC,nn` (rule R194). -/
def execCall_NC_nn (o1 o2 : Byte) (s : State) : Result := callIf (s.cond .NC) (s.imm o1 o2) s

/-- `CALL C,nn` (rule R194). -/
def execCall_C_nn (o1 o2 : Byte) (s : State) : Result := callIf (s.cond .C) (s.imm o1 o2) s

/-- `CALL PO,nn` (rule R194). -/
def execCall_PO_nn (o1 o2 : Byte) (s : State) : Result := callIf (s.cond .PO) (s.imm o1 o2) s

/-- `CALL PE,nn` (rule R194). -/
def execCall_PE_nn (o1 o2 : Byte) (s : State) : Result := callIf (s.cond .PE) (s.imm o1 o2) s

/-- `CALL P,nn` (rule R194). -/
def execCall_P_nn (o1 o2 : Byte) (s : State) : Result := callIf (s.cond .P) (s.imm o1 o2) s

/-- `CALL M,nn` (rule R194). -/
def execCall_M_nn (o1 o2 : Byte) (s : State) : Result := callIf (s.cond .M) (s.imm o1 o2) s

/-- `RET` (rule R195). -/
def execRet (s : State) : Result := .next (s.ret s.cfg.cycles.ret)

/-- `RET NZ` (rule R196). -/
def execRet_NZ (s : State) : Result := retIf (s.cond .NZ) s

/-- `RET Z` (rule R196). -/
def execRet_Z (s : State) : Result := retIf (s.cond .Z) s

/-- `RET NC` (rule R196). -/
def execRet_NC (s : State) : Result := retIf (s.cond .NC) s

/-- `RET C` (rule R196). -/
def execRet_C (s : State) : Result := retIf (s.cond .C) s

/-- `RET PO` (rule R196). -/
def execRet_PO (s : State) : Result := retIf (s.cond .PO) s

/-- `RET PE` (rule R196). -/
def execRet_PE (s : State) : Result := retIf (s.cond .PE) s

/-- `RET P` (rule R196). -/
def execRet_P (s : State) : Result := retIf (s.cond .P) s

/-- `RET M` (rule R196). -/
def execRet_M (s : State) : Result := retIf (s.cond .M) s

/-- `JR e` (rule R197). -/
def execJr_e (o1 : Byte) (s : State) : Result := .next (s.jump (s.relTarget o1) s.cfg.cycles.jr)

/-- `JR NZ,e` (rule R198). -/
def execJr_NZ_e (o1 : Byte) (s : State) : Result := jumpIf (s.cond .NZ) (s.relTarget o1) .B1 s.cfg.cycles.jrCc s

/-- `JR Z,e` (rule R198). -/
def execJr_Z_e (o1 : Byte) (s : State) : Result := jumpIf (s.cond .Z) (s.relTarget o1) .B1 s.cfg.cycles.jrCc s

/-- `JR NC,e` (rule R198). -/
def execJr_NC_e (o1 : Byte) (s : State) : Result := jumpIf (s.cond .NC) (s.relTarget o1) .B1 s.cfg.cycles.jrCc s

/-- `JR C,e` (rule R198). -/
def execJr_C_e (o1 : Byte) (s : State) : Result := jumpIf (s.cond .C) (s.relTarget o1) .B1 s.cfg.cycles.jrCc s

/-- `DJNZ e` (rule R199). -/
def execDjnz_e (o1 : Byte) (s : State) : Result := decBJump o1 s

end Sys2Proof.Machine
end

