-- ==== Sys2Proof/Machine/Exchange.lean ====
section
/-! DEFINITION. Exchange (`46_exchange.md`). Each instruction has a meaning of its own over the shared operations. -/

namespace Sys2Proof.Machine

/-- `A <-> A'`, `F <-> F'`, all eight bits (rule R210). -/
def State.exchangeAF (s : State) : State :=
  { s with
    main := { s.main with a := s.shadow.a, f := s.shadow.f }
    shadow := { s.shadow with a := s.main.a, f := s.main.f } }

/-- `B C D E H L` with their shadows, all six at once (rule R211). -/
def State.exchangeBanks (s : State) : State :=
  { s with
    main := { s.shadow with a := s.main.a, f := s.main.f }
    shadow := { s.main with a := s.shadow.a, f := s.shadow.f } }

/-- `D <-> H`, `E <-> L` (rule R212). -/
def State.exchangeDEHL (s : State) : State :=
  { s with main := { s.main with d := s.main.h, e := s.main.l, h := s.main.d, l := s.main.e } }

/-! ### The meanings -/

/-- `EX AF,AF'` (rule R210). -/
def execEx_AF (s : State) : Result := .next (s.exchangeAF.retire .B0 s.cfg.cycles.exchange)

/-- `EXX` (rule R211). -/
def execExx (s : State) : Result := .next (s.exchangeBanks.retire .B0 s.cfg.cycles.exchange)

/-- `EX DE,HL` (rule R212). -/
def execEx_DE_HL (s : State) : Result := .next (s.exchangeDEHL.retire .B0 s.cfg.cycles.exchange)

end Sys2Proof.Machine
end

