-- ==== Sys2Proof/Machine/Load.lean ====
section
/-! DEFINITION. The load family (`41_load.md`). No load writes a flag or raises anything (rule R141). Each instruction has a meaning of its own over the shared operations. -/

namespace Sys2Proof.Machine

/-- A load of a register from a byte already read (rules R130 to R132, R134, R140). -/
def loadReg (r : Reg) (v : Byte) (fmt : Format) (cost : Nat) (s : State) : Result :=
  .next ((s.setReg r v).retire fmt cost)

/-- A load of a pair with a 16-bit value (rules R136, R240). -/
def loadPair (p : Pair) (v : Word) (fmt : Format) (cost : Nat) (s : State) : Result :=
  .next ((s.setPair p v).retire fmt cost)

/-- A store of one byte (rules R133, R135, R138, R139, R246). -/
def storeByte (a : Word) (v : Byte) (fmt : Format) (cost : Nat) (s : State) : Result :=
  .next ((s.writeByte a v).retire fmt cost)

/-! ### The meanings -/

/-- `LD B,n` (rule R130). -/
def execLd_B_n (o1 : Byte) (s : State) : Result := loadReg .B o1 .B1 s.cfg.cycles.ldRN s

/-- `LD C,n` (rule R130). -/
def execLd_C_n (o1 : Byte) (s : State) : Result := loadReg .C o1 .B1 s.cfg.cycles.ldRN s

/-- `LD D,n` (rule R130). -/
def execLd_D_n (o1 : Byte) (s : State) : Result := loadReg .D o1 .B1 s.cfg.cycles.ldRN s

/-- `LD E,n` (rule R130). -/
def execLd_E_n (o1 : Byte) (s : State) : Result := loadReg .E o1 .B1 s.cfg.cycles.ldRN s

/-- `LD H,n` (rule R130). -/
def execLd_H_n (o1 : Byte) (s : State) : Result := loadReg .H o1 .B1 s.cfg.cycles.ldRN s

/-- `LD L,n` (rule R130). -/
def execLd_L_n (o1 : Byte) (s : State) : Result := loadReg .L o1 .B1 s.cfg.cycles.ldRN s

/-- `LD A,n` (rule R130). -/
def execLd_A_n (o1 : Byte) (s : State) : Result := loadReg .A o1 .B1 s.cfg.cycles.ldRN s

/-- `LD BC,nn` (rule R136). -/
def execLd_BC_nn (o1 o2 : Byte) (s : State) : Result := loadPair .BC (s.imm o1 o2) .B2 s.cfg.cycles.ldRRnn s

/-- `LD DE,nn` (rule R136). -/
def execLd_DE_nn (o1 o2 : Byte) (s : State) : Result := loadPair .DE (s.imm o1 o2) .B2 s.cfg.cycles.ldRRnn s

/-- `LD HL,nn` (rule R136). -/
def execLd_HL_nn (o1 o2 : Byte) (s : State) : Result := loadPair .HL (s.imm o1 o2) .B2 s.cfg.cycles.ldRRnn s

/-- `LD B,B` (rule R131). -/
def execLd_B_B (s : State) : Result := loadReg .B (s.reg .B) .B0 s.cfg.cycles.ldRR s

/-- `LD B,C` (rule R131). -/
def execLd_B_C (s : State) : Result := loadReg .B (s.reg .C) .B0 s.cfg.cycles.ldRR s

/-- `LD B,D` (rule R131). -/
def execLd_B_D (s : State) : Result := loadReg .B (s.reg .D) .B0 s.cfg.cycles.ldRR s

/-- `LD B,E` (rule R131). -/
def execLd_B_E (s : State) : Result := loadReg .B (s.reg .E) .B0 s.cfg.cycles.ldRR s

/-- `LD B,H` (rule R131). -/
def execLd_B_H (s : State) : Result := loadReg .B (s.reg .H) .B0 s.cfg.cycles.ldRR s

/-- `LD B,L` (rule R131). -/
def execLd_B_L (s : State) : Result := loadReg .B (s.reg .L) .B0 s.cfg.cycles.ldRR s

/-- `LD B,A` (rule R131). -/
def execLd_B_A (s : State) : Result := loadReg .B (s.reg .A) .B0 s.cfg.cycles.ldRR s

/-- `LD C,B` (rule R131). -/
def execLd_C_B (s : State) : Result := loadReg .C (s.reg .B) .B0 s.cfg.cycles.ldRR s

/-- `LD C,C` (rule R131). -/
def execLd_C_C (s : State) : Result := loadReg .C (s.reg .C) .B0 s.cfg.cycles.ldRR s

/-- `LD C,D` (rule R131). -/
def execLd_C_D (s : State) : Result := loadReg .C (s.reg .D) .B0 s.cfg.cycles.ldRR s

/-- `LD C,E` (rule R131). -/
def execLd_C_E (s : State) : Result := loadReg .C (s.reg .E) .B0 s.cfg.cycles.ldRR s

/-- `LD C,H` (rule R131). -/
def execLd_C_H (s : State) : Result := loadReg .C (s.reg .H) .B0 s.cfg.cycles.ldRR s

/-- `LD C,L` (rule R131). -/
def execLd_C_L (s : State) : Result := loadReg .C (s.reg .L) .B0 s.cfg.cycles.ldRR s

/-- `LD C,A` (rule R131). -/
def execLd_C_A (s : State) : Result := loadReg .C (s.reg .A) .B0 s.cfg.cycles.ldRR s

/-- `LD D,B` (rule R131). -/
def execLd_D_B (s : State) : Result := loadReg .D (s.reg .B) .B0 s.cfg.cycles.ldRR s

/-- `LD D,C` (rule R131). -/
def execLd_D_C (s : State) : Result := loadReg .D (s.reg .C) .B0 s.cfg.cycles.ldRR s

/-- `LD D,D` (rule R131). -/
def execLd_D_D (s : State) : Result := loadReg .D (s.reg .D) .B0 s.cfg.cycles.ldRR s

/-- `LD D,E` (rule R131). -/
def execLd_D_E (s : State) : Result := loadReg .D (s.reg .E) .B0 s.cfg.cycles.ldRR s

/-- `LD D,H` (rule R131). -/
def execLd_D_H (s : State) : Result := loadReg .D (s.reg .H) .B0 s.cfg.cycles.ldRR s

/-- `LD D,L` (rule R131). -/
def execLd_D_L (s : State) : Result := loadReg .D (s.reg .L) .B0 s.cfg.cycles.ldRR s

/-- `LD D,A` (rule R131). -/
def execLd_D_A (s : State) : Result := loadReg .D (s.reg .A) .B0 s.cfg.cycles.ldRR s

/-- `LD E,B` (rule R131). -/
def execLd_E_B (s : State) : Result := loadReg .E (s.reg .B) .B0 s.cfg.cycles.ldRR s

/-- `LD E,C` (rule R131). -/
def execLd_E_C (s : State) : Result := loadReg .E (s.reg .C) .B0 s.cfg.cycles.ldRR s

/-- `LD E,D` (rule R131). -/
def execLd_E_D (s : State) : Result := loadReg .E (s.reg .D) .B0 s.cfg.cycles.ldRR s

/-- `LD E,E` (rule R131). -/
def execLd_E_E (s : State) : Result := loadReg .E (s.reg .E) .B0 s.cfg.cycles.ldRR s

/-- `LD E,H` (rule R131). -/
def execLd_E_H (s : State) : Result := loadReg .E (s.reg .H) .B0 s.cfg.cycles.ldRR s

/-- `LD E,L` (rule R131). -/
def execLd_E_L (s : State) : Result := loadReg .E (s.reg .L) .B0 s.cfg.cycles.ldRR s

/-- `LD E,A` (rule R131). -/
def execLd_E_A (s : State) : Result := loadReg .E (s.reg .A) .B0 s.cfg.cycles.ldRR s

/-- `LD H,B` (rule R131). -/
def execLd_H_B (s : State) : Result := loadReg .H (s.reg .B) .B0 s.cfg.cycles.ldRR s

/-- `LD H,C` (rule R131). -/
def execLd_H_C (s : State) : Result := loadReg .H (s.reg .C) .B0 s.cfg.cycles.ldRR s

/-- `LD H,D` (rule R131). -/
def execLd_H_D (s : State) : Result := loadReg .H (s.reg .D) .B0 s.cfg.cycles.ldRR s

/-- `LD H,E` (rule R131). -/
def execLd_H_E (s : State) : Result := loadReg .H (s.reg .E) .B0 s.cfg.cycles.ldRR s

/-- `LD H,H` (rule R131). -/
def execLd_H_H (s : State) : Result := loadReg .H (s.reg .H) .B0 s.cfg.cycles.ldRR s

/-- `LD H,L` (rule R131). -/
def execLd_H_L (s : State) : Result := loadReg .H (s.reg .L) .B0 s.cfg.cycles.ldRR s

/-- `LD H,A` (rule R131). -/
def execLd_H_A (s : State) : Result := loadReg .H (s.reg .A) .B0 s.cfg.cycles.ldRR s

/-- `LD L,B` (rule R131). -/
def execLd_L_B (s : State) : Result := loadReg .L (s.reg .B) .B0 s.cfg.cycles.ldRR s

/-- `LD L,C` (rule R131). -/
def execLd_L_C (s : State) : Result := loadReg .L (s.reg .C) .B0 s.cfg.cycles.ldRR s

/-- `LD L,D` (rule R131). -/
def execLd_L_D (s : State) : Result := loadReg .L (s.reg .D) .B0 s.cfg.cycles.ldRR s

/-- `LD L,E` (rule R131). -/
def execLd_L_E (s : State) : Result := loadReg .L (s.reg .E) .B0 s.cfg.cycles.ldRR s

/-- `LD L,H` (rule R131). -/
def execLd_L_H (s : State) : Result := loadReg .L (s.reg .H) .B0 s.cfg.cycles.ldRR s

/-- `LD L,L` (rule R131). -/
def execLd_L_L (s : State) : Result := loadReg .L (s.reg .L) .B0 s.cfg.cycles.ldRR s

/-- `LD L,A` (rule R131). -/
def execLd_L_A (s : State) : Result := loadReg .L (s.reg .A) .B0 s.cfg.cycles.ldRR s

/-- `LD A,B` (rule R131). -/
def execLd_A_B (s : State) : Result := loadReg .A (s.reg .B) .B0 s.cfg.cycles.ldRR s

/-- `LD A,C` (rule R131). -/
def execLd_A_C (s : State) : Result := loadReg .A (s.reg .C) .B0 s.cfg.cycles.ldRR s

/-- `LD A,D` (rule R131). -/
def execLd_A_D (s : State) : Result := loadReg .A (s.reg .D) .B0 s.cfg.cycles.ldRR s

/-- `LD A,E` (rule R131). -/
def execLd_A_E (s : State) : Result := loadReg .A (s.reg .E) .B0 s.cfg.cycles.ldRR s

/-- `LD A,H` (rule R131). -/
def execLd_A_H (s : State) : Result := loadReg .A (s.reg .H) .B0 s.cfg.cycles.ldRR s

/-- `LD A,L` (rule R131). -/
def execLd_A_L (s : State) : Result := loadReg .A (s.reg .L) .B0 s.cfg.cycles.ldRR s

/-- `LD A,A` (rule R131). -/
def execLd_A_A (s : State) : Result := loadReg .A (s.reg .A) .B0 s.cfg.cycles.ldRR s

/-- `LD B,(HL)` (rule R132). -/
def execLd_B_iHL (s : State) : Result := loadReg .B (s.readByte (s.pair .HL)) .B0 s.cfg.cycles.ldRiHL s

/-- `LD C,(HL)` (rule R132). -/
def execLd_C_iHL (s : State) : Result := loadReg .C (s.readByte (s.pair .HL)) .B0 s.cfg.cycles.ldRiHL s

/-- `LD D,(HL)` (rule R132). -/
def execLd_D_iHL (s : State) : Result := loadReg .D (s.readByte (s.pair .HL)) .B0 s.cfg.cycles.ldRiHL s

/-- `LD E,(HL)` (rule R132). -/
def execLd_E_iHL (s : State) : Result := loadReg .E (s.readByte (s.pair .HL)) .B0 s.cfg.cycles.ldRiHL s

/-- `LD H,(HL)` (rule R132). -/
def execLd_H_iHL (s : State) : Result := loadReg .H (s.readByte (s.pair .HL)) .B0 s.cfg.cycles.ldRiHL s

/-- `LD L,(HL)` (rule R132). -/
def execLd_L_iHL (s : State) : Result := loadReg .L (s.readByte (s.pair .HL)) .B0 s.cfg.cycles.ldRiHL s

/-- `LD A,(HL)` (rule R132). -/
def execLd_A_iHL (s : State) : Result := loadReg .A (s.readByte (s.pair .HL)) .B0 s.cfg.cycles.ldRiHL s

/-- `LD (HL),B` (rule R133). -/
def execLd_iHL_B (s : State) : Result := storeByte (s.pair .HL) (s.reg .B) .B0 s.cfg.cycles.ldiHLR s

/-- `LD (HL),C` (rule R133). -/
def execLd_iHL_C (s : State) : Result := storeByte (s.pair .HL) (s.reg .C) .B0 s.cfg.cycles.ldiHLR s

/-- `LD (HL),D` (rule R133). -/
def execLd_iHL_D (s : State) : Result := storeByte (s.pair .HL) (s.reg .D) .B0 s.cfg.cycles.ldiHLR s

/-- `LD (HL),E` (rule R133). -/
def execLd_iHL_E (s : State) : Result := storeByte (s.pair .HL) (s.reg .E) .B0 s.cfg.cycles.ldiHLR s

/-- `LD (HL),H` (rule R133). -/
def execLd_iHL_H (s : State) : Result := storeByte (s.pair .HL) (s.reg .H) .B0 s.cfg.cycles.ldiHLR s

/-- `LD (HL),L` (rule R133). -/
def execLd_iHL_L (s : State) : Result := storeByte (s.pair .HL) (s.reg .L) .B0 s.cfg.cycles.ldiHLR s

/-- `LD (HL),A` (rule R133). -/
def execLd_iHL_A (s : State) : Result := storeByte (s.pair .HL) (s.reg .A) .B0 s.cfg.cycles.ldiHLR s

/-- `LD A,(BC)` (rule R134). -/
def execLd_A_iBC (s : State) : Result := loadReg .A (s.readByte (s.pair .BC)) .B0 s.cfg.cycles.ldAiRR s

/-- `LD A,(DE)` (rule R134). -/
def execLd_A_iDE (s : State) : Result := loadReg .A (s.readByte (s.pair .DE)) .B0 s.cfg.cycles.ldAiRR s

/-- `LD (BC),A` (rule R135). -/
def execLd_iBC_A (s : State) : Result := storeByte (s.pair .BC) (s.reg .A) .B0 s.cfg.cycles.ldiRRA s

/-- `LD (DE),A` (rule R135). -/
def execLd_iDE_A (s : State) : Result := storeByte (s.pair .DE) (s.reg .A) .B0 s.cfg.cycles.ldiRRA s

/-- `LD (nn),A` (rule R138). -/
def execLd_inn_A (o1 o2 : Byte) (s : State) : Result := storeByte (s.imm o1 o2) (s.reg .A) .B2 s.cfg.cycles.ldinnA s

/-- `LD (nn),HL` (rule R139). -/
def execLd_inn_HL (o1 o2 : Byte) (s : State) : Result := storeByte (s.imm o1 o2) (s.reg .L) .B2 s.cfg.cycles.ldinnHL s

/-- `LD HL,(nn)` (rule R140). -/
def execLd_HL_inn (o1 o2 : Byte) (s : State) : Result := loadReg .L (s.readByte (s.imm o1 o2)) .B2 s.cfg.cycles.ldHLinn s

end Sys2Proof.Machine
end

