-- ==== Sys2Proof/Machine/Stack.lean ====
section
/-! DEFINITION. `PUSH` and `POP` (`42_stack.md`). Each instruction has a meaning of its own over the shared operations. -/

namespace Sys2Proof.Machine

/-- `PUSH qq`, `PUSH IX`: `Push16(rp[qq])` (rules R151, R244). -/
def pushPair (p : Pair) (fmt : Format) (cost : Nat) (s : State) : Result :=
  .next ((s.push16 (s.pair p)).retire fmt cost)

/-- `POP qq`, `POP IX`: `rp[qq] <- Pop16()`; `POP AF` writes all eight bits of `F` (rules R152, R245). -/
def popPair (p : Pair) (fmt : Format) (cost : Nat) (s : State) : Result :=
  .next ((s.pop16.2.setPair p s.pop16.1).retire fmt cost)

/-! ### The meanings -/

/-- `PUSH BC` (rule R151). -/
def execPush_BC (s : State) : Result := pushPair .BC .B0 s.cfg.cycles.push s

/-- `PUSH DE` (rule R151). -/
def execPush_DE (s : State) : Result := pushPair .DE .B0 s.cfg.cycles.push s

/-- `PUSH HL` (rule R151). -/
def execPush_HL (s : State) : Result := pushPair .HL .B0 s.cfg.cycles.push s

/-- `PUSH AF` (rule R151). -/
def execPush_AF (s : State) : Result := pushPair .AF .B0 s.cfg.cycles.push s

/-- `POP BC` (rule R152). -/
def execPop_BC (s : State) : Result := popPair .BC .B0 s.cfg.cycles.pop s

/-- `POP DE` (rule R152). -/
def execPop_DE (s : State) : Result := popPair .DE .B0 s.cfg.cycles.pop s

/-- `POP HL` (rule R152). -/
def execPop_HL (s : State) : Result := popPair .HL .B0 s.cfg.cycles.pop s

/-- `POP AF` (rule R152). -/
def execPop_AF (s : State) : Result := popPair .AF .B0 s.cfg.cycles.pop s

end Sys2Proof.Machine
end

