-- ==== Sys2Proof/Machine/Index.lean ====
section
/-! DEFINITION. The index namespace (`48_index.md`): the pair operations of files 40 to 42 on `IX`. Each instruction has a meaning of its own over the shared operations. -/

namespace Sys2Proof.Machine

/-- `LD IX,(nn)`: only the low half is loaded (rule R247). -/
def loadIXL (v : Byte) (fmt : Format) (cost : Nat) (s : State) : Result :=
  .next ({ s with ixl := v }.retire fmt cost)

/-! ### The meanings -/

/-- `LD IX,nn` (rule R240). -/
def execLd_IX_nn (o1 o2 : Byte) (s : State) : Result := loadPair .IX (s.imm o1 o2) .P2 s.cfg.cycles.ldIXnn s

/-- `INC IX` (rule R241). -/
def execInc_IX (s : State) : Result := incPair .IX .P0 s.cfg.cycles.incDecIX s

/-- `DEC IX` (rule R242). -/
def execDec_IX (s : State) : Result := decPair .IX .P0 s.cfg.cycles.incDecIX s

/-- `ADD IX,BC` (rule R243). -/
def execAdd_IX_BC (s : State) : Result := addPair .IX .BC .P0 s.cfg.cycles.addIX s

/-- `ADD IX,DE` (rule R243). -/
def execAdd_IX_DE (s : State) : Result := addPair .IX .DE .P0 s.cfg.cycles.addIX s

/-- `ADD IX,IX` (rule R243). -/
def execAdd_IX_IX (s : State) : Result := addPair .IX .IX .P0 s.cfg.cycles.addIX s

/-- `PUSH IX` (rule R244). -/
def execPush_IX (s : State) : Result := pushPair .IX .P0 s.cfg.cycles.pushIX s

/-- `POP IX` (rule R245). -/
def execPop_IX (s : State) : Result := popPair .IX .P0 s.cfg.cycles.popIX s

/-- `LD (nn),IX` (rule R246). -/
def execLd_inn_IX (o1 o2 : Byte) (s : State) : Result := storeByte (s.imm o1 o2) s.ixl .P2 s.cfg.cycles.ldIXmem s

/-- `LD IX,(nn)` (rule R247). -/
def execLd_IX_inn (o1 o2 : Byte) (s : State) : Result := loadIXL (s.readByte (s.imm o1 o2)) .P2 s.cfg.cycles.ldIXmem s

end Sys2Proof.Machine
end

