-- ==== Sys2Proof/Machine/Shift.lean ====
section
/-! DEFINITION. Rotate and shift (`43_rotate_shift.md`). Each instruction has a meaning of its own over the shared operations. -/

namespace Sys2Proof.Machine

/-- `RLCA`: rotate `A` left by one, bit 7 into bit 0 and into `C`; no other flag (rule R160). -/
def rotateLeftA (s : State) : Result :=
  let old := s.reg .A
  .next (((s.setReg .A (old.rotateLeft 1)).setF (shiftFlags old.msb s.main.f)).retire .B0 s.cfg.cycles.rlca)

/-- `SRL r`: logical shift right by one, bit 0 into `C`, bit 7 cleared; no other flag (rule R161). -/
def shiftRight (r : Reg) (s : State) : Result :=
  let old := s.reg r
  .next (((s.setReg r (old >>> 1)).setF (shiftFlags (old.getLsbD 0) s.main.f)).retire .P0 s.cfg.cycles.srl)

/-! ### The meanings -/

/-- `RLCA` (rule R160). -/
def execRlca (s : State) : Result := rotateLeftA s

/-- `SRL B` (rule R161). -/
def execSrl_B (s : State) : Result := shiftRight .B s

/-- `SRL C` (rule R161). -/
def execSrl_C (s : State) : Result := shiftRight .C s

/-- `SRL D` (rule R161). -/
def execSrl_D (s : State) : Result := shiftRight .D s

/-- `SRL E` (rule R161). -/
def execSrl_E (s : State) : Result := shiftRight .E s

/-- `SRL H` (rule R161). -/
def execSrl_H (s : State) : Result := shiftRight .H s

/-- `SRL L` (rule R161). -/
def execSrl_L (s : State) : Result := shiftRight .L s

/-- `SRL A` (rule R161). -/
def execSrl_A (s : State) : Result := shiftRight .A s

end Sys2Proof.Machine
end

