-- ==== Sys2Proof/Machine/System.lean ====
section
/-! DEFINITION. Block transfer, port I/O, interrupt control (`47_block_io_system.md`). Each instruction has a meaning of its own over the shared operations. -/

namespace Sys2Proof.Machine

/-- One pass of the body of `LDIR`: copy a byte, advance `HL` and `DE`, decrement `BC` (rule R220). The order is the rule's,
each statement seeing the ones before it. -/
def State.copyOne (s : State) : State :=
  let s1 := s.writeByte (s.pair .DE) (s.readByte (s.pair .HL))
  let s2 := s1.setPair .HL (s1.pair .HL + 1)
  let s3 := s2.setPair .DE (s2.pair .DE + 1)
  s3.setPair .BC (s3.pair .BC - 1)

/-- The loop of `LDIR`, tested after the decrement, with the number of repeats (rule R220). It ends by itself: `BC` reaches zero
within 65536 passes, so the fuel 65536 that `copyBlock` gives is never short (log 14). -/
def copyLoop : (fuel : Nat) → (repeats : Nat) → State → State × Nat
  | 0, repeats, s => (s, repeats)
  | fuel + 1, repeats, s =>
    let t := s.copyOne
    if t.pair .BC = 0 then (t, repeats) else copyLoop fuel (repeats + 1) t

/-- `LDIR`: the whole copy in one step; `cycles = 16 + 21 * repeats` (rules R220, R302). -/
def copyBlock (s : State) : Result :=
  let r := copyLoop 65536 0 s
  .next (r.1.retire .P0 (16 + 21 * r.2))

/-- `OUT (C),r`: `PortWrite(rp[BC], r[r])` (rule R222). -/
def outReg (r : Reg) (s : State) : Result :=
  .next ((s.portWrite s.port (s.reg r)).retire .P0 s.cfg.cycles.portIO)

/-- `IN A,(C)`: `r[A] <- PortRead(rp[BC])`, no flag (rule R223). -/
def inReg (r : Reg) (s : State) : Result :=
  let v := s.portAnswer s.port
  .next (((s.portRead s.port v).setReg r v).retire .P0 s.cfg.cycles.portIO)

/-- `DI`, `EI`: both flip-flops, at once (rules R225, R226). -/
def setInterrupts (on : Bool) (s : State) : Result :=
  .next ({ s with iff1 := on, iff2 := on }.retire .B0 s.cfg.cycles.diEi)

/-- `IM n`: the mode selector (rule R227). -/
def setIntMode (m : IntMode) (s : State) : Result :=
  .next ({ s with im := m }.retire .P0 s.cfg.cycles.im)

/-! ### The meanings -/

/-- `LDIR` (rule R220). -/
def execLdir (s : State) : Result := copyBlock s

/-- `OUT (C),B` (rule R222). -/
def execOut_iC_B (s : State) : Result := outReg .B s

/-- `OUT (C),C` (rule R222). -/
def execOut_iC_C (s : State) : Result := outReg .C s

/-- `OUT (C),D` (rule R222). -/
def execOut_iC_D (s : State) : Result := outReg .D s

/-- `OUT (C),E` (rule R222). -/
def execOut_iC_E (s : State) : Result := outReg .E s

/-- `OUT (C),H` (rule R222). -/
def execOut_iC_H (s : State) : Result := outReg .H s

/-- `OUT (C),L` (rule R222). -/
def execOut_iC_L (s : State) : Result := outReg .L s

/-- `OUT (C),A` (rule R222). -/
def execOut_iC_A (s : State) : Result := outReg .A s

/-- `IN A,(C)` (rule R223). -/
def execIn_A_iC (s : State) : Result := inReg .A s

/-- `DI` (rule R225). -/
def execDi (s : State) : Result := setInterrupts false s

/-- `EI` (rule R226). -/
def execEi (s : State) : Result := setInterrupts true s

/-- `IM 0` (rule R227). -/
def execIm_0 (s : State) : Result := setIntMode .im0 s

/-- `IM 1` (rule R227). -/
def execIm_1 (s : State) : Result := setIntMode .im1 s

/-- `IM 2` (rule R227). -/
def execIm_2 (s : State) : Result := setIntMode .im2 s

end Sys2Proof.Machine
end

