-- ==== Sys2Proof/Machine/Dispatch.lean ====
section
/-! DEFINITION. Execute: one arm per constructor of Instr, each the one direct call of that instruction's meaning. The state it is
given has pc at the instruction's first byte (pc0); the meaning ends with pc at pc_next or at its target. -/

namespace Sys2Proof.Machine

def exec (i : Instr) (s : State) : Host.Outcome State Fault Refusal :=
  match i with
  | .ld_BC_nn o1 o2 => Sys2Proof.Machine.execLd_BC_nn o1 o2 s
  | .ld_iBC_A => Sys2Proof.Machine.execLd_iBC_A s
  | .inc_BC => Sys2Proof.Machine.execInc_BC s
  | .inc_B => Sys2Proof.Machine.execInc_B s
  | .dec_B => Sys2Proof.Machine.execDec_B s
  | .ld_B_n o1 => Sys2Proof.Machine.execLd_B_n o1 s
  | .rlca => Sys2Proof.Machine.execRlca s
  | .ex_AF => Sys2Proof.Machine.execEx_AF s
  | .add_HL_BC => Sys2Proof.Machine.execAdd_HL_BC s
  | .ld_A_iBC => Sys2Proof.Machine.execLd_A_iBC s
  | .dec_BC => Sys2Proof.Machine.execDec_BC s
  | .inc_C => Sys2Proof.Machine.execInc_C s
  | .dec_C => Sys2Proof.Machine.execDec_C s
  | .ld_C_n o1 => Sys2Proof.Machine.execLd_C_n o1 s
  | .djnz_e o1 => Sys2Proof.Machine.execDjnz_e o1 s
  | .ld_DE_nn o1 o2 => Sys2Proof.Machine.execLd_DE_nn o1 o2 s
  | .ld_iDE_A => Sys2Proof.Machine.execLd_iDE_A s
  | .inc_DE => Sys2Proof.Machine.execInc_DE s
  | .inc_D => Sys2Proof.Machine.execInc_D s
  | .dec_D => Sys2Proof.Machine.execDec_D s
  | .ld_D_n o1 => Sys2Proof.Machine.execLd_D_n o1 s
  | .jr_e o1 => Sys2Proof.Machine.execJr_e o1 s
  | .add_HL_DE => Sys2Proof.Machine.execAdd_HL_DE s
  | .ld_A_iDE => Sys2Proof.Machine.execLd_A_iDE s
  | .dec_DE => Sys2Proof.Machine.execDec_DE s
  | .inc_E => Sys2Proof.Machine.execInc_E s
  | .dec_E => Sys2Proof.Machine.execDec_E s
  | .ld_E_n o1 => Sys2Proof.Machine.execLd_E_n o1 s
  | .jr_NZ_e o1 => Sys2Proof.Machine.execJr_NZ_e o1 s
  | .ld_HL_nn o1 o2 => Sys2Proof.Machine.execLd_HL_nn o1 o2 s
  | .ld_inn_HL o1 o2 => Sys2Proof.Machine.execLd_inn_HL o1 o2 s
  | .inc_HL => Sys2Proof.Machine.execInc_HL s
  | .inc_H => Sys2Proof.Machine.execInc_H s
  | .dec_H => Sys2Proof.Machine.execDec_H s
  | .ld_H_n o1 => Sys2Proof.Machine.execLd_H_n o1 s
  | .jr_Z_e o1 => Sys2Proof.Machine.execJr_Z_e o1 s
  | .add_HL_HL => Sys2Proof.Machine.execAdd_HL_HL s
  | .ld_HL_inn o1 o2 => Sys2Proof.Machine.execLd_HL_inn o1 o2 s
  | .dec_HL => Sys2Proof.Machine.execDec_HL s
  | .inc_L => Sys2Proof.Machine.execInc_L s
  | .dec_L => Sys2Proof.Machine.execDec_L s
  | .ld_L_n o1 => Sys2Proof.Machine.execLd_L_n o1 s
  | .jr_NC_e o1 => Sys2Proof.Machine.execJr_NC_e o1 s
  | .ld_inn_A o1 o2 => Sys2Proof.Machine.execLd_inn_A o1 o2 s
  | .jr_C_e o1 => Sys2Proof.Machine.execJr_C_e o1 s
  | .inc_A => Sys2Proof.Machine.execInc_A s
  | .dec_A => Sys2Proof.Machine.execDec_A s
  | .ld_A_n o1 => Sys2Proof.Machine.execLd_A_n o1 s
  | .ld_B_B => Sys2Proof.Machine.execLd_B_B s
  | .ld_B_C => Sys2Proof.Machine.execLd_B_C s
  | .ld_B_D => Sys2Proof.Machine.execLd_B_D s
  | .ld_B_E => Sys2Proof.Machine.execLd_B_E s
  | .ld_B_H => Sys2Proof.Machine.execLd_B_H s
  | .ld_B_L => Sys2Proof.Machine.execLd_B_L s
  | .ld_B_iHL => Sys2Proof.Machine.execLd_B_iHL s
  | .ld_B_A => Sys2Proof.Machine.execLd_B_A s
  | .ld_C_B => Sys2Proof.Machine.execLd_C_B s
  | .ld_C_C => Sys2Proof.Machine.execLd_C_C s
  | .ld_C_D => Sys2Proof.Machine.execLd_C_D s
  | .ld_C_E => Sys2Proof.Machine.execLd_C_E s
  | .ld_C_H => Sys2Proof.Machine.execLd_C_H s
  | .ld_C_L => Sys2Proof.Machine.execLd_C_L s
  | .ld_C_iHL => Sys2Proof.Machine.execLd_C_iHL s
  | .ld_C_A => Sys2Proof.Machine.execLd_C_A s
  | .ld_D_B => Sys2Proof.Machine.execLd_D_B s
  | .ld_D_C => Sys2Proof.Machine.execLd_D_C s
  | .ld_D_D => Sys2Proof.Machine.execLd_D_D s
  | .ld_D_E => Sys2Proof.Machine.execLd_D_E s
  | .ld_D_H => Sys2Proof.Machine.execLd_D_H s
  | .ld_D_L => Sys2Proof.Machine.execLd_D_L s
  | .ld_D_iHL => Sys2Proof.Machine.execLd_D_iHL s
  | .ld_D_A => Sys2Proof.Machine.execLd_D_A s
  | .ld_E_B => Sys2Proof.Machine.execLd_E_B s
  | .ld_E_C => Sys2Proof.Machine.execLd_E_C s
  | .ld_E_D => Sys2Proof.Machine.execLd_E_D s
  | .ld_E_E => Sys2Proof.Machine.execLd_E_E s
  | .ld_E_H => Sys2Proof.Machine.execLd_E_H s
  | .ld_E_L => Sys2Proof.Machine.execLd_E_L s
  | .ld_E_iHL => Sys2Proof.Machine.execLd_E_iHL s
  | .ld_E_A => Sys2Proof.Machine.execLd_E_A s
  | .ld_H_B => Sys2Proof.Machine.execLd_H_B s
  | .ld_H_C => Sys2Proof.Machine.execLd_H_C s
  | .ld_H_D => Sys2Proof.Machine.execLd_H_D s
  | .ld_H_E => Sys2Proof.Machine.execLd_H_E s
  | .ld_H_H => Sys2Proof.Machine.execLd_H_H s
  | .ld_H_L => Sys2Proof.Machine.execLd_H_L s
  | .ld_H_iHL => Sys2Proof.Machine.execLd_H_iHL s
  | .ld_H_A => Sys2Proof.Machine.execLd_H_A s
  | .ld_L_B => Sys2Proof.Machine.execLd_L_B s
  | .ld_L_C => Sys2Proof.Machine.execLd_L_C s
  | .ld_L_D => Sys2Proof.Machine.execLd_L_D s
  | .ld_L_E => Sys2Proof.Machine.execLd_L_E s
  | .ld_L_H => Sys2Proof.Machine.execLd_L_H s
  | .ld_L_L => Sys2Proof.Machine.execLd_L_L s
  | .ld_L_iHL => Sys2Proof.Machine.execLd_L_iHL s
  | .ld_L_A => Sys2Proof.Machine.execLd_L_A s
  | .ld_iHL_B => Sys2Proof.Machine.execLd_iHL_B s
  | .ld_iHL_C => Sys2Proof.Machine.execLd_iHL_C s
  | .ld_iHL_D => Sys2Proof.Machine.execLd_iHL_D s
  | .ld_iHL_E => Sys2Proof.Machine.execLd_iHL_E s
  | .ld_iHL_H => Sys2Proof.Machine.execLd_iHL_H s
  | .ld_iHL_L => Sys2Proof.Machine.execLd_iHL_L s
  | .ld_iHL_A => Sys2Proof.Machine.execLd_iHL_A s
  | .ld_A_B => Sys2Proof.Machine.execLd_A_B s
  | .ld_A_C => Sys2Proof.Machine.execLd_A_C s
  | .ld_A_D => Sys2Proof.Machine.execLd_A_D s
  | .ld_A_E => Sys2Proof.Machine.execLd_A_E s
  | .ld_A_H => Sys2Proof.Machine.execLd_A_H s
  | .ld_A_L => Sys2Proof.Machine.execLd_A_L s
  | .ld_A_iHL => Sys2Proof.Machine.execLd_A_iHL s
  | .ld_A_A => Sys2Proof.Machine.execLd_A_A s
  | .sub_B => Sys2Proof.Machine.execSub_B s
  | .sub_C => Sys2Proof.Machine.execSub_C s
  | .sub_D => Sys2Proof.Machine.execSub_D s
  | .sub_E => Sys2Proof.Machine.execSub_E s
  | .sub_H => Sys2Proof.Machine.execSub_H s
  | .sub_L => Sys2Proof.Machine.execSub_L s
  | .sub_A => Sys2Proof.Machine.execSub_A s
  | .sbc_A_B => Sys2Proof.Machine.execSbc_A_B s
  | .sbc_A_C => Sys2Proof.Machine.execSbc_A_C s
  | .sbc_A_D => Sys2Proof.Machine.execSbc_A_D s
  | .sbc_A_E => Sys2Proof.Machine.execSbc_A_E s
  | .sbc_A_H => Sys2Proof.Machine.execSbc_A_H s
  | .sbc_A_L => Sys2Proof.Machine.execSbc_A_L s
  | .sbc_A_A => Sys2Proof.Machine.execSbc_A_A s
  | .and_B => Sys2Proof.Machine.execAnd_B s
  | .and_C => Sys2Proof.Machine.execAnd_C s
  | .and_D => Sys2Proof.Machine.execAnd_D s
  | .and_E => Sys2Proof.Machine.execAnd_E s
  | .and_H => Sys2Proof.Machine.execAnd_H s
  | .and_L => Sys2Proof.Machine.execAnd_L s
  | .and_iHL => Sys2Proof.Machine.execAnd_iHL s
  | .and_A => Sys2Proof.Machine.execAnd_A s
  | .xor_B => Sys2Proof.Machine.execXor_B s
  | .xor_C => Sys2Proof.Machine.execXor_C s
  | .xor_D => Sys2Proof.Machine.execXor_D s
  | .xor_E => Sys2Proof.Machine.execXor_E s
  | .xor_H => Sys2Proof.Machine.execXor_H s
  | .xor_L => Sys2Proof.Machine.execXor_L s
  | .xor_iHL => Sys2Proof.Machine.execXor_iHL s
  | .xor_A => Sys2Proof.Machine.execXor_A s
  | .or_B => Sys2Proof.Machine.execOr_B s
  | .or_C => Sys2Proof.Machine.execOr_C s
  | .or_D => Sys2Proof.Machine.execOr_D s
  | .or_E => Sys2Proof.Machine.execOr_E s
  | .or_H => Sys2Proof.Machine.execOr_H s
  | .or_L => Sys2Proof.Machine.execOr_L s
  | .or_iHL => Sys2Proof.Machine.execOr_iHL s
  | .or_A => Sys2Proof.Machine.execOr_A s
  | .cp_B => Sys2Proof.Machine.execCp_B s
  | .cp_C => Sys2Proof.Machine.execCp_C s
  | .cp_D => Sys2Proof.Machine.execCp_D s
  | .cp_E => Sys2Proof.Machine.execCp_E s
  | .cp_H => Sys2Proof.Machine.execCp_H s
  | .cp_L => Sys2Proof.Machine.execCp_L s
  | .cp_A => Sys2Proof.Machine.execCp_A s
  | .ret_NZ => Sys2Proof.Machine.execRet_NZ s
  | .pop_BC => Sys2Proof.Machine.execPop_BC s
  | .jp_NZ_nn o1 o2 => Sys2Proof.Machine.execJp_NZ_nn o1 o2 s
  | .jp_nn o1 o2 => Sys2Proof.Machine.execJp_nn o1 o2 s
  | .call_NZ_nn o1 o2 => Sys2Proof.Machine.execCall_NZ_nn o1 o2 s
  | .push_BC => Sys2Proof.Machine.execPush_BC s
  | .ret_Z => Sys2Proof.Machine.execRet_Z s
  | .ret => Sys2Proof.Machine.execRet s
  | .jp_Z_nn o1 o2 => Sys2Proof.Machine.execJp_Z_nn o1 o2 s
  | .call_Z_nn o1 o2 => Sys2Proof.Machine.execCall_Z_nn o1 o2 s
  | .call_nn o1 o2 => Sys2Proof.Machine.execCall_nn o1 o2 s
  | .ret_NC => Sys2Proof.Machine.execRet_NC s
  | .pop_DE => Sys2Proof.Machine.execPop_DE s
  | .jp_NC_nn o1 o2 => Sys2Proof.Machine.execJp_NC_nn o1 o2 s
  | .call_NC_nn o1 o2 => Sys2Proof.Machine.execCall_NC_nn o1 o2 s
  | .push_DE => Sys2Proof.Machine.execPush_DE s
  | .ret_C => Sys2Proof.Machine.execRet_C s
  | .exx => Sys2Proof.Machine.execExx s
  | .jp_C_nn o1 o2 => Sys2Proof.Machine.execJp_C_nn o1 o2 s
  | .call_C_nn o1 o2 => Sys2Proof.Machine.execCall_C_nn o1 o2 s
  | .ret_PO => Sys2Proof.Machine.execRet_PO s
  | .pop_HL => Sys2Proof.Machine.execPop_HL s
  | .jp_PO_nn o1 o2 => Sys2Proof.Machine.execJp_PO_nn o1 o2 s
  | .call_PO_nn o1 o2 => Sys2Proof.Machine.execCall_PO_nn o1 o2 s
  | .push_HL => Sys2Proof.Machine.execPush_HL s
  | .ret_PE => Sys2Proof.Machine.execRet_PE s
  | .jp_PE_nn o1 o2 => Sys2Proof.Machine.execJp_PE_nn o1 o2 s
  | .ex_DE_HL => Sys2Proof.Machine.execEx_DE_HL s
  | .call_PE_nn o1 o2 => Sys2Proof.Machine.execCall_PE_nn o1 o2 s
  | .ret_P => Sys2Proof.Machine.execRet_P s
  | .pop_AF => Sys2Proof.Machine.execPop_AF s
  | .jp_P_nn o1 o2 => Sys2Proof.Machine.execJp_P_nn o1 o2 s
  | .di => Sys2Proof.Machine.execDi s
  | .call_P_nn o1 o2 => Sys2Proof.Machine.execCall_P_nn o1 o2 s
  | .push_AF => Sys2Proof.Machine.execPush_AF s
  | .ret_M => Sys2Proof.Machine.execRet_M s
  | .jp_M_nn o1 o2 => Sys2Proof.Machine.execJp_M_nn o1 o2 s
  | .ei => Sys2Proof.Machine.execEi s
  | .call_M_nn o1 o2 => Sys2Proof.Machine.execCall_M_nn o1 o2 s
  | .cp_n o1 => Sys2Proof.Machine.execCp_n o1 s
  | .out_iC_B => Sys2Proof.Machine.execOut_iC_B s
  | .im_0 => Sys2Proof.Machine.execIm_0 s
  | .out_iC_C => Sys2Proof.Machine.execOut_iC_C s
  | .out_iC_D => Sys2Proof.Machine.execOut_iC_D s
  | .im_1 => Sys2Proof.Machine.execIm_1 s
  | .out_iC_E => Sys2Proof.Machine.execOut_iC_E s
  | .im_2 => Sys2Proof.Machine.execIm_2 s
  | .out_iC_H => Sys2Proof.Machine.execOut_iC_H s
  | .out_iC_L => Sys2Proof.Machine.execOut_iC_L s
  | .in_A_iC => Sys2Proof.Machine.execIn_A_iC s
  | .out_iC_A => Sys2Proof.Machine.execOut_iC_A s
  | .ldir => Sys2Proof.Machine.execLdir s
  | .srl_B => Sys2Proof.Machine.execSrl_B s
  | .srl_C => Sys2Proof.Machine.execSrl_C s
  | .srl_D => Sys2Proof.Machine.execSrl_D s
  | .srl_E => Sys2Proof.Machine.execSrl_E s
  | .srl_H => Sys2Proof.Machine.execSrl_H s
  | .srl_L => Sys2Proof.Machine.execSrl_L s
  | .srl_A => Sys2Proof.Machine.execSrl_A s
  | .add_IX_BC => Sys2Proof.Machine.execAdd_IX_BC s
  | .add_IX_DE => Sys2Proof.Machine.execAdd_IX_DE s
  | .ld_IX_nn o1 o2 => Sys2Proof.Machine.execLd_IX_nn o1 o2 s
  | .ld_inn_IX o1 o2 => Sys2Proof.Machine.execLd_inn_IX o1 o2 s
  | .inc_IX => Sys2Proof.Machine.execInc_IX s
  | .add_IX_IX => Sys2Proof.Machine.execAdd_IX_IX s
  | .ld_IX_inn o1 o2 => Sys2Proof.Machine.execLd_IX_inn o1 o2 s
  | .dec_IX => Sys2Proof.Machine.execDec_IX s
  | .pop_IX => Sys2Proof.Machine.execPop_IX s
  | .push_IX => Sys2Proof.Machine.execPush_IX s

end Sys2Proof.Machine
end

