-- ==== Sys2Proof/WellFormed.lean ====
section
/-! DEFINITION. Well-formedness of an instruction as bytes. A term of `Instr` cannot be ill formed: the operand
shape is part of the constructor, as `30_encoding.md` rule R85 and `60_exceptions.md` rule R267 ask ("make this an
unrepresentable state"). What can be ill formed is a raw instruction: a namespace, an opcode byte and a list of
operand bytes. Its check is written from the FIELD patterns of the opcode byte (rule R89 and the encoding lines of the
instruction rules), apart from the decoder's table, which is written from the rows of rules R91 to R94; that the two
agree on all 4 x 256 pairs is proved in Laws/Decode.lean. -/

namespace Sys2Proof

/-- The sub-fields of the opcode byte (`30_encoding.md` rule R89), as numbers. -/
structure OpFields where
  x : Nat
  y : Nat
  z : Nat
  p : Nat
  q : Nat
  deriving DecidableEq, Repr

def OpFields.of (op : Byte) : OpFields where
  x := (op.extractLsb' 6 2).toNat
  y := (op.extractLsb' 3 3).toNat
  z := (op.extractLsb' 0 3).toNat
  p := (op.extractLsb' 4 2).toNat
  q := (op.extractLsb' 3 1).toNat

/-- The declared arity where the condition holds, unmapped otherwise. -/
def arityIf (c : Bool) (n : Nat) : Option Nat := if c then some n else none

/-- The basic namespace, block `x = 0`. -/
def arityBasic0 (f : OpFields) : Option Nat :=
  match f.z with
  | 0 => if f.y = 1 then some 0 else arityIf (2 ≤ f.y) 1          -- EX AF,AF'; DJNZ, JR, JR cc'
  | 1 => arityIf (f.p ≠ 3) (if f.q = 0 then 2 else 0)             -- LD rr,nn; ADD HL,rr
  | 2 =>
    if f.p ≤ 1 then some 0                                        -- LD (BC)/(DE),A; LD A,(BC)/(DE)
    else if f.p = 2 then some 2                                   -- LD (nn),HL; LD HL,(nn)
    else arityIf (f.q = 0) 2                                      -- LD (nn),A
  | 3 => arityIf (f.p ≠ 3) 0                                      -- INC rr; DEC rr
  | 4 => arityIf (f.y ≠ 6) 0                                      -- INC r
  | 5 => arityIf (f.y ≠ 6) 0                                      -- DEC r
  | 6 => arityIf (f.y ≠ 6) 1                                      -- LD r,n
  | _ => arityIf (f.y = 0) 0                                      -- RLCA

/-- The basic namespace, block `x = 2`: the accumulator operations. -/
def arityBasic2 (f : OpFields) : Option Nat :=
  if f.y = 4 ∨ f.y = 5 ∨ f.y = 6 then some 0                      -- AND, XOR, OR with a register or (HL)
  else arityIf ((f.y = 2 ∨ f.y = 3 ∨ f.y = 7) ∧ f.z ≠ 6) 0        -- SUB, SBC, CP with a register

/-- The basic namespace, block `x = 3`. -/
def arityBasic3 (f : OpFields) : Option Nat :=
  match f.z with
  | 0 => some 0                                                   -- RET cc
  | 1 => arityIf (f.q = 0 ∨ f.p ≤ 1) 0                            -- POP qq; RET, EXX
  | 2 => some 2                                                   -- JP cc,nn
  | 3 => if f.y = 0 then some 2 else arityIf (5 ≤ f.y) 0          -- JP nn; EX DE,HL, DI, EI
  | 4 => some 2                                                   -- CALL cc,nn
  | 5 => if f.q = 0 then some 0 else arityIf (f.p = 0) 2          -- PUSH qq; CALL nn
  | 6 => arityIf (f.y = 7) 1                                      -- CP n
  | _ => none

/-- The arity an opcode declares in its namespace, by the field patterns; `none` where it is unmapped
(`30_encoding.md` rules R85, R95). -/
def declaredArity (ns : Namespace) (op : Byte) : Option Nat :=
  let f := OpFields.of op
  match ns with
  | .basic =>
    match f.x with
    | 0 => arityBasic0 f
    | 1 => arityIf (¬ (f.y = 6 ∧ f.z = 6)) 0                      -- LD r,r'; LD r,(HL); LD (HL),r
    | 2 => arityBasic2 f
    | _ => arityBasic3 f
  | .extended =>
    if f.x = 1 then
      arityIf (f.z = 1 ∧ f.y ≠ 6                                  -- OUT (C),r
        ∨ f.z = 0 ∧ f.y = 7                                       -- IN A,(C)
        ∨ f.z = 6 ∧ (f.y = 0 ∨ f.y = 2 ∨ f.y = 3)) 0              -- IM 0, IM 1, IM 2
    else arityIf (f.x = 2 ∧ f.y = 6 ∧ f.z = 0) 0                  -- LDIR
  | .bit => arityIf (f.x = 0 ∧ f.y = 7 ∧ f.z ≠ 6) 0               -- SRL r
  | .index =>
    if f.x = 0 then
      if f.z = 1 ∧ f.q = 1 then arityIf (f.p ≠ 3) 0               -- ADD IX,pp
      else if f.p = 2 then
        if f.z = 1 ∨ f.z = 2 then some 2                          -- LD IX,nn; LD (nn),IX; LD IX,(nn)
        else arityIf (f.z = 3) 0                                  -- INC IX; DEC IX
      else none
    else arityIf (f.x = 3 ∧ f.p = 2 ∧ f.q = 0 ∧ (f.z = 1 ∨ f.z = 5)) 0  -- POP IX; PUSH IX

/-- An instruction before decoding: a namespace, an opcode byte, operand bytes. -/
structure Raw where
  ns       : Namespace
  op       : Byte
  operands : List Byte
  deriving DecidableEq, Repr

/-- The opcode is mapped in its namespace (`30_encoding.md` rule R95). -/
def Raw.mapped (r : Raw) : Bool := (declaredArity r.ns r.op).isSome

/-- The operand count is the declared one (`30_encoding.md` rule R85, `60_exceptions.md` rule R267). -/
def Raw.shapeOk (r : Raw) : Bool := declaredArity r.ns r.op == some r.operands.length

/-- A raw instruction is well formed: mapped, with the declared number of operand bytes. -/
def Raw.wf (r : Raw) : Bool := r.mapped && r.shapeOk

end Sys2Proof
end

