-- ==== Sys2Proof/Decode.lean ====
section
/-! DEFINITION. The decoder and the encoder (`30_encoding.md`). The catalog is written as the rows of rules R91 to R94, one
per mapped (namespace, opcode) pair, each with its opcode byte, its Zilog mnemonic template (rule R97) and its
operand shape (rule R85). PRESUMED, as the spec itself marks it: every opcode byte but the three prefixes is general
knowledge (log 9). -/

namespace Sys2Proof

/-- What a catalog entry does with the operand bytes: arity 0, 1 or 2 (`30_encoding.md` rule R85). -/
inductive Shape where
  | op0 (i : Instr)
  | op1 (f : Byte → Instr)
  | op2 (f : Byte → Byte → Instr)

def Shape.arity : Shape → Nat
  | .op0 _ => 0
  | .op1 _ => 1
  | .op2 _ => 2

/-- The instruction a shape makes of the two bytes after the opcode; it takes as many as its arity. -/
def Shape.fill : Shape → Byte → Byte → Instr
  | .op0 i, _, _ => i
  | .op1 f, o1, _ => f o1
  | .op2 f, o1, o2 => f o1 o2

/-- One row of the catalog ("one object per opcode", `30_encoding.md` rule R90). -/
structure Row where
  op       : Byte
  mnemonic : String
  shape    : Shape

/-- Basic namespace (rule R91), opcodes 00 to 3F. -/
def basicRows00 : List Row := [
  ⟨0x01, "LD BC,nn", .op2 .ld_BC_nn⟩,
  ⟨0x02, "LD (BC),A", .op0 .ld_iBC_A⟩,
  ⟨0x03, "INC BC", .op0 .inc_BC⟩,
  ⟨0x04, "INC B", .op0 .inc_B⟩,
  ⟨0x05, "DEC B", .op0 .dec_B⟩,
  ⟨0x06, "LD B,n", .op1 .ld_B_n⟩,
  ⟨0x07, "RLCA", .op0 .rlca⟩,
  ⟨0x08, "EX AF,AF'", .op0 .ex_AF⟩,
  ⟨0x09, "ADD HL,BC", .op0 .add_HL_BC⟩,
  ⟨0x0A, "LD A,(BC)", .op0 .ld_A_iBC⟩,
  ⟨0x0B, "DEC BC", .op0 .dec_BC⟩,
  ⟨0x0C, "INC C", .op0 .inc_C⟩,
  ⟨0x0D, "DEC C", .op0 .dec_C⟩,
  ⟨0x0E, "LD C,n", .op1 .ld_C_n⟩,
  ⟨0x10, "DJNZ e", .op1 .djnz_e⟩,
  ⟨0x11, "LD DE,nn", .op2 .ld_DE_nn⟩,
  ⟨0x12, "LD (DE),A", .op0 .ld_iDE_A⟩,
  ⟨0x13, "INC DE", .op0 .inc_DE⟩,
  ⟨0x14, "INC D", .op0 .inc_D⟩,
  ⟨0x15, "DEC D", .op0 .dec_D⟩,
  ⟨0x16, "LD D,n", .op1 .ld_D_n⟩,
  ⟨0x18, "JR e", .op1 .jr_e⟩,
  ⟨0x19, "ADD HL,DE", .op0 .add_HL_DE⟩,
  ⟨0x1A, "LD A,(DE)", .op0 .ld_A_iDE⟩,
  ⟨0x1B, "DEC DE", .op0 .dec_DE⟩,
  ⟨0x1C, "INC E", .op0 .inc_E⟩,
  ⟨0x1D, "DEC E", .op0 .dec_E⟩,
  ⟨0x1E, "LD E,n", .op1 .ld_E_n⟩,
  ⟨0x20, "JR NZ,e", .op1 .jr_NZ_e⟩,
  ⟨0x21, "LD HL,nn", .op2 .ld_HL_nn⟩,
  ⟨0x22, "LD (nn),HL", .op2 .ld_inn_HL⟩,
  ⟨0x23, "INC HL", .op0 .inc_HL⟩,
  ⟨0x24, "INC H", .op0 .inc_H⟩,
  ⟨0x25, "DEC H", .op0 .dec_H⟩,
  ⟨0x26, "LD H,n", .op1 .ld_H_n⟩,
  ⟨0x28, "JR Z,e", .op1 .jr_Z_e⟩,
  ⟨0x29, "ADD HL,HL", .op0 .add_HL_HL⟩,
  ⟨0x2A, "LD HL,(nn)", .op2 .ld_HL_inn⟩,
  ⟨0x2B, "DEC HL", .op0 .dec_HL⟩,
  ⟨0x2C, "INC L", .op0 .inc_L⟩,
  ⟨0x2D, "DEC L", .op0 .dec_L⟩,
  ⟨0x2E, "LD L,n", .op1 .ld_L_n⟩,
  ⟨0x30, "JR NC,e", .op1 .jr_NC_e⟩,
  ⟨0x32, "LD (nn),A", .op2 .ld_inn_A⟩,
  ⟨0x38, "JR C,e", .op1 .jr_C_e⟩,
  ⟨0x3C, "INC A", .op0 .inc_A⟩,
  ⟨0x3D, "DEC A", .op0 .dec_A⟩,
  ⟨0x3E, "LD A,n", .op1 .ld_A_n⟩]

/-- Basic namespace (rule R91), opcodes 40 to 5F: `LD r,r'`, `LD r,(HL)` with `r` in `B C D E`. -/
def basicRows40 : List Row := [
  ⟨0x40, "LD B,B", .op0 .ld_B_B⟩,
  ⟨0x41, "LD B,C", .op0 .ld_B_C⟩,
  ⟨0x42, "LD B,D", .op0 .ld_B_D⟩,
  ⟨0x43, "LD B,E", .op0 .ld_B_E⟩,
  ⟨0x44, "LD B,H", .op0 .ld_B_H⟩,
  ⟨0x45, "LD B,L", .op0 .ld_B_L⟩,
  ⟨0x46, "LD B,(HL)", .op0 .ld_B_iHL⟩,
  ⟨0x47, "LD B,A", .op0 .ld_B_A⟩,
  ⟨0x48, "LD C,B", .op0 .ld_C_B⟩,
  ⟨0x49, "LD C,C", .op0 .ld_C_C⟩,
  ⟨0x4A, "LD C,D", .op0 .ld_C_D⟩,
  ⟨0x4B, "LD C,E", .op0 .ld_C_E⟩,
  ⟨0x4C, "LD C,H", .op0 .ld_C_H⟩,
  ⟨0x4D, "LD C,L", .op0 .ld_C_L⟩,
  ⟨0x4E, "LD C,(HL)", .op0 .ld_C_iHL⟩,
  ⟨0x4F, "LD C,A", .op0 .ld_C_A⟩,
  ⟨0x50, "LD D,B", .op0 .ld_D_B⟩,
  ⟨0x51, "LD D,C", .op0 .ld_D_C⟩,
  ⟨0x52, "LD D,D", .op0 .ld_D_D⟩,
  ⟨0x53, "LD D,E", .op0 .ld_D_E⟩,
  ⟨0x54, "LD D,H", .op0 .ld_D_H⟩,
  ⟨0x55, "LD D,L", .op0 .ld_D_L⟩,
  ⟨0x56, "LD D,(HL)", .op0 .ld_D_iHL⟩,
  ⟨0x57, "LD D,A", .op0 .ld_D_A⟩,
  ⟨0x58, "LD E,B", .op0 .ld_E_B⟩,
  ⟨0x59, "LD E,C", .op0 .ld_E_C⟩,
  ⟨0x5A, "LD E,D", .op0 .ld_E_D⟩,
  ⟨0x5B, "LD E,E", .op0 .ld_E_E⟩,
  ⟨0x5C, "LD E,H", .op0 .ld_E_H⟩,
  ⟨0x5D, "LD E,L", .op0 .ld_E_L⟩,
  ⟨0x5E, "LD E,(HL)", .op0 .ld_E_iHL⟩,
  ⟨0x5F, "LD E,A", .op0 .ld_E_A⟩]

/-- Basic namespace (rule R91), opcodes 60 to 7F: `LD r,r'`, `LD r,(HL)` with `r` in `H L A`, and `LD (HL),r`. -/
def basicRows60 : List Row := [
  ⟨0x60, "LD H,B", .op0 .ld_H_B⟩,
  ⟨0x61, "LD H,C", .op0 .ld_H_C⟩,
  ⟨0x62, "LD H,D", .op0 .ld_H_D⟩,
  ⟨0x63, "LD H,E", .op0 .ld_H_E⟩,
  ⟨0x64, "LD H,H", .op0 .ld_H_H⟩,
  ⟨0x65, "LD H,L", .op0 .ld_H_L⟩,
  ⟨0x66, "LD H,(HL)", .op0 .ld_H_iHL⟩,
  ⟨0x67, "LD H,A", .op0 .ld_H_A⟩,
  ⟨0x68, "LD L,B", .op0 .ld_L_B⟩,
  ⟨0x69, "LD L,C", .op0 .ld_L_C⟩,
  ⟨0x6A, "LD L,D", .op0 .ld_L_D⟩,
  ⟨0x6B, "LD L,E", .op0 .ld_L_E⟩,
  ⟨0x6C, "LD L,H", .op0 .ld_L_H⟩,
  ⟨0x6D, "LD L,L", .op0 .ld_L_L⟩,
  ⟨0x6E, "LD L,(HL)", .op0 .ld_L_iHL⟩,
  ⟨0x6F, "LD L,A", .op0 .ld_L_A⟩,
  ⟨0x70, "LD (HL),B", .op0 .ld_iHL_B⟩,
  ⟨0x71, "LD (HL),C", .op0 .ld_iHL_C⟩,
  ⟨0x72, "LD (HL),D", .op0 .ld_iHL_D⟩,
  ⟨0x73, "LD (HL),E", .op0 .ld_iHL_E⟩,
  ⟨0x74, "LD (HL),H", .op0 .ld_iHL_H⟩,
  ⟨0x75, "LD (HL),L", .op0 .ld_iHL_L⟩,
  ⟨0x77, "LD (HL),A", .op0 .ld_iHL_A⟩,
  ⟨0x78, "LD A,B", .op0 .ld_A_B⟩,
  ⟨0x79, "LD A,C", .op0 .ld_A_C⟩,
  ⟨0x7A, "LD A,D", .op0 .ld_A_D⟩,
  ⟨0x7B, "LD A,E", .op0 .ld_A_E⟩,
  ⟨0x7C, "LD A,H", .op0 .ld_A_H⟩,
  ⟨0x7D, "LD A,L", .op0 .ld_A_L⟩,
  ⟨0x7E, "LD A,(HL)", .op0 .ld_A_iHL⟩,
  ⟨0x7F, "LD A,A", .op0 .ld_A_A⟩]

/-- Basic namespace (rule R91), opcodes 80 to BF: accumulator operations. -/
def basicRows80 : List Row := [
  ⟨0x90, "SUB B", .op0 .sub_B⟩,
  ⟨0x91, "SUB C", .op0 .sub_C⟩,
  ⟨0x92, "SUB D", .op0 .sub_D⟩,
  ⟨0x93, "SUB E", .op0 .sub_E⟩,
  ⟨0x94, "SUB H", .op0 .sub_H⟩,
  ⟨0x95, "SUB L", .op0 .sub_L⟩,
  ⟨0x97, "SUB A", .op0 .sub_A⟩,
  ⟨0x98, "SBC A,B", .op0 .sbc_A_B⟩,
  ⟨0x99, "SBC A,C", .op0 .sbc_A_C⟩,
  ⟨0x9A, "SBC A,D", .op0 .sbc_A_D⟩,
  ⟨0x9B, "SBC A,E", .op0 .sbc_A_E⟩,
  ⟨0x9C, "SBC A,H", .op0 .sbc_A_H⟩,
  ⟨0x9D, "SBC A,L", .op0 .sbc_A_L⟩,
  ⟨0x9F, "SBC A,A", .op0 .sbc_A_A⟩,
  ⟨0xA0, "AND B", .op0 .and_B⟩,
  ⟨0xA1, "AND C", .op0 .and_C⟩,
  ⟨0xA2, "AND D", .op0 .and_D⟩,
  ⟨0xA3, "AND E", .op0 .and_E⟩,
  ⟨0xA4, "AND H", .op0 .and_H⟩,
  ⟨0xA5, "AND L", .op0 .and_L⟩,
  ⟨0xA6, "AND (HL)", .op0 .and_iHL⟩,
  ⟨0xA7, "AND A", .op0 .and_A⟩,
  ⟨0xA8, "XOR B", .op0 .xor_B⟩,
  ⟨0xA9, "XOR C", .op0 .xor_C⟩,
  ⟨0xAA, "XOR D", .op0 .xor_D⟩,
  ⟨0xAB, "XOR E", .op0 .xor_E⟩,
  ⟨0xAC, "XOR H", .op0 .xor_H⟩,
  ⟨0xAD, "XOR L", .op0 .xor_L⟩,
  ⟨0xAE, "XOR (HL)", .op0 .xor_iHL⟩,
  ⟨0xAF, "XOR A", .op0 .xor_A⟩,
  ⟨0xB0, "OR B", .op0 .or_B⟩,
  ⟨0xB1, "OR C", .op0 .or_C⟩,
  ⟨0xB2, "OR D", .op0 .or_D⟩,
  ⟨0xB3, "OR E", .op0 .or_E⟩,
  ⟨0xB4, "OR H", .op0 .or_H⟩,
  ⟨0xB5, "OR L", .op0 .or_L⟩,
  ⟨0xB6, "OR (HL)", .op0 .or_iHL⟩,
  ⟨0xB7, "OR A", .op0 .or_A⟩,
  ⟨0xB8, "CP B", .op0 .cp_B⟩,
  ⟨0xB9, "CP C", .op0 .cp_C⟩,
  ⟨0xBA, "CP D", .op0 .cp_D⟩,
  ⟨0xBB, "CP E", .op0 .cp_E⟩,
  ⟨0xBC, "CP H", .op0 .cp_H⟩,
  ⟨0xBD, "CP L", .op0 .cp_L⟩,
  ⟨0xBF, "CP A", .op0 .cp_A⟩]

/-- Basic namespace (rule R91), opcodes C0 to FF. -/
def basicRowsC0 : List Row := [
  ⟨0xC0, "RET NZ", .op0 .ret_NZ⟩,
  ⟨0xC1, "POP BC", .op0 .pop_BC⟩,
  ⟨0xC2, "JP NZ,nn", .op2 .jp_NZ_nn⟩,
  ⟨0xC3, "JP nn", .op2 .jp_nn⟩,
  ⟨0xC4, "CALL NZ,nn", .op2 .call_NZ_nn⟩,
  ⟨0xC5, "PUSH BC", .op0 .push_BC⟩,
  ⟨0xC8, "RET Z", .op0 .ret_Z⟩,
  ⟨0xC9, "RET", .op0 .ret⟩,
  ⟨0xCA, "JP Z,nn", .op2 .jp_Z_nn⟩,
  ⟨0xCC, "CALL Z,nn", .op2 .call_Z_nn⟩,
  ⟨0xCD, "CALL nn", .op2 .call_nn⟩,
  ⟨0xD0, "RET NC", .op0 .ret_NC⟩,
  ⟨0xD1, "POP DE", .op0 .pop_DE⟩,
  ⟨0xD2, "JP NC,nn", .op2 .jp_NC_nn⟩,
  ⟨0xD4, "CALL NC,nn", .op2 .call_NC_nn⟩,
  ⟨0xD5, "PUSH DE", .op0 .push_DE⟩,
  ⟨0xD8, "RET C", .op0 .ret_C⟩,
  ⟨0xD9, "EXX", .op0 .exx⟩,
  ⟨0xDA, "JP C,nn", .op2 .jp_C_nn⟩,
  ⟨0xDC, "CALL C,nn", .op2 .call_C_nn⟩,
  ⟨0xE0, "RET PO", .op0 .ret_PO⟩,
  ⟨0xE1, "POP HL", .op0 .pop_HL⟩,
  ⟨0xE2, "JP PO,nn", .op2 .jp_PO_nn⟩,
  ⟨0xE4, "CALL PO,nn", .op2 .call_PO_nn⟩,
  ⟨0xE5, "PUSH HL", .op0 .push_HL⟩,
  ⟨0xE8, "RET PE", .op0 .ret_PE⟩,
  ⟨0xEA, "JP PE,nn", .op2 .jp_PE_nn⟩,
  ⟨0xEB, "EX DE,HL", .op0 .ex_DE_HL⟩,
  ⟨0xEC, "CALL PE,nn", .op2 .call_PE_nn⟩,
  ⟨0xF0, "RET P", .op0 .ret_P⟩,
  ⟨0xF1, "POP AF", .op0 .pop_AF⟩,
  ⟨0xF2, "JP P,nn", .op2 .jp_P_nn⟩,
  ⟨0xF3, "DI", .op0 .di⟩,
  ⟨0xF4, "CALL P,nn", .op2 .call_P_nn⟩,
  ⟨0xF5, "PUSH AF", .op0 .push_AF⟩,
  ⟨0xF8, "RET M", .op0 .ret_M⟩,
  ⟨0xFA, "JP M,nn", .op2 .jp_M_nn⟩,
  ⟨0xFB, "EI", .op0 .ei⟩,
  ⟨0xFC, "CALL M,nn", .op2 .call_M_nn⟩,
  ⟨0xFE, "CP n", .op1 .cp_n⟩]

/-- The extended namespace (rule R92). -/
def extendedRows : List Row := [
  ⟨0x41, "OUT (C),B", .op0 .out_iC_B⟩,
  ⟨0x46, "IM 0", .op0 .im_0⟩,
  ⟨0x49, "OUT (C),C", .op0 .out_iC_C⟩,
  ⟨0x51, "OUT (C),D", .op0 .out_iC_D⟩,
  ⟨0x56, "IM 1", .op0 .im_1⟩,
  ⟨0x59, "OUT (C),E", .op0 .out_iC_E⟩,
  ⟨0x5E, "IM 2", .op0 .im_2⟩,
  ⟨0x61, "OUT (C),H", .op0 .out_iC_H⟩,
  ⟨0x69, "OUT (C),L", .op0 .out_iC_L⟩,
  ⟨0x78, "IN A,(C)", .op0 .in_A_iC⟩,
  ⟨0x79, "OUT (C),A", .op0 .out_iC_A⟩,
  ⟨0xB0, "LDIR", .op0 .ldir⟩]

/-- The bit namespace (rule R93). -/
def bitRows : List Row := [
  ⟨0x38, "SRL B", .op0 .srl_B⟩,
  ⟨0x39, "SRL C", .op0 .srl_C⟩,
  ⟨0x3A, "SRL D", .op0 .srl_D⟩,
  ⟨0x3B, "SRL E", .op0 .srl_E⟩,
  ⟨0x3C, "SRL H", .op0 .srl_H⟩,
  ⟨0x3D, "SRL L", .op0 .srl_L⟩,
  ⟨0x3F, "SRL A", .op0 .srl_A⟩]

/-- The index namespace (rule R94). -/
def indexRows : List Row := [
  ⟨0x09, "ADD IX,BC", .op0 .add_IX_BC⟩,
  ⟨0x19, "ADD IX,DE", .op0 .add_IX_DE⟩,
  ⟨0x21, "LD IX,nn", .op2 .ld_IX_nn⟩,
  ⟨0x22, "LD (nn),IX", .op2 .ld_inn_IX⟩,
  ⟨0x23, "INC IX", .op0 .inc_IX⟩,
  ⟨0x29, "ADD IX,IX", .op0 .add_IX_IX⟩,
  ⟨0x2A, "LD IX,(nn)", .op2 .ld_IX_inn⟩,
  ⟨0x2B, "DEC IX", .op0 .dec_IX⟩,
  ⟨0xE1, "POP IX", .op0 .pop_IX⟩,
  ⟨0xE5, "PUSH IX", .op0 .push_IX⟩]

/-- The catalog's rows in a namespace (`30_encoding.md` rules R91 to R94). -/
def rowsOf : Namespace → List Row
  | .basic => basicRows00 ++ basicRows40 ++ basicRows60 ++ basicRows80 ++ basicRowsC0
  | .extended => extendedRows
  | .bit => bitRows
  | .index => indexRows

/-- The dispatch lookup, total on all 4 x 256 pairs: an instruction's shape, or `none` for the distinguished
"unmapped" result (`30_encoding.md` rule R96, `60_exceptions.md` rule R264). -/
def catalog (ns : Namespace) (op : Byte) : Option Shape :=
  ((rowsOf ns).find? fun r => r.op == op).map (·.shape)

/-- The namespace a prefix byte selects; `none` for a byte that is no prefix (`30_encoding.md` rule R82). -/
def prefixNamespace (b : Byte) : Option Namespace :=
  if b = 0xCB then some .bit
  else if b = 0xDD then some .index
  else if b = 0xED then some .extended
  else none

/-- Dispatch and operand assembly: look the opcode up, then take its operand bytes (`30_encoding.md` rule R81). -/
def dispatch (ns : Namespace) (op o1 o2 : Byte) : Except Unmapped Instr :=
  match catalog ns op with
  | some shape => .ok (shape.fill o1 o2)
  | none => .error ⟨ns, op⟩

/-- The decoder over the four bytes an instruction can occupy: a prefix selects the namespace of the next byte, and
the byte after a prefix is always an opcode (`30_encoding.md` rules R81, R83). It is total, and rejects an unmapped
pair by name. -/
def decodeWindow (b0 b1 b2 b3 : Byte) : Except Unmapped Instr :=
  match prefixNamespace b0 with
  | some ns => dispatch ns b1 b2 b3
  | none => dispatch .basic b0 b1 b2

/-! ### The encoder -/

/-- The raw form of an instruction: namespace, opcode byte and operand bytes (`30_encoding.md` rules R91 to R94). -/
def Instr.raw : Instr → Raw
  | .ld_BC_nn o1 o2 => ⟨.basic, 0x01, [o1, o2]⟩
  | .ld_iBC_A => ⟨.basic, 0x02, []⟩
  | .inc_BC => ⟨.basic, 0x03, []⟩
  | .inc_B => ⟨.basic, 0x04, []⟩
  | .dec_B => ⟨.basic, 0x05, []⟩
  | .ld_B_n o1 => ⟨.basic, 0x06, [o1]⟩
  | .rlca => ⟨.basic, 0x07, []⟩
  | .ex_AF => ⟨.basic, 0x08, []⟩
  | .add_HL_BC => ⟨.basic, 0x09, []⟩
  | .ld_A_iBC => ⟨.basic, 0x0A, []⟩
  | .dec_BC => ⟨.basic, 0x0B, []⟩
  | .inc_C => ⟨.basic, 0x0C, []⟩
  | .dec_C => ⟨.basic, 0x0D, []⟩
  | .ld_C_n o1 => ⟨.basic, 0x0E, [o1]⟩
  | .djnz_e o1 => ⟨.basic, 0x10, [o1]⟩
  | .ld_DE_nn o1 o2 => ⟨.basic, 0x11, [o1, o2]⟩
  | .ld_iDE_A => ⟨.basic, 0x12, []⟩
  | .inc_DE => ⟨.basic, 0x13, []⟩
  | .inc_D => ⟨.basic, 0x14, []⟩
  | .dec_D => ⟨.basic, 0x15, []⟩
  | .ld_D_n o1 => ⟨.basic, 0x16, [o1]⟩
  | .jr_e o1 => ⟨.basic, 0x18, [o1]⟩
  | .add_HL_DE => ⟨.basic, 0x19, []⟩
  | .ld_A_iDE => ⟨.basic, 0x1A, []⟩
  | .dec_DE => ⟨.basic, 0x1B, []⟩
  | .inc_E => ⟨.basic, 0x1C, []⟩
  | .dec_E => ⟨.basic, 0x1D, []⟩
  | .ld_E_n o1 => ⟨.basic, 0x1E, [o1]⟩
  | .jr_NZ_e o1 => ⟨.basic, 0x20, [o1]⟩
  | .ld_HL_nn o1 o2 => ⟨.basic, 0x21, [o1, o2]⟩
  | .ld_inn_HL o1 o2 => ⟨.basic, 0x22, [o1, o2]⟩
  | .inc_HL => ⟨.basic, 0x23, []⟩
  | .inc_H => ⟨.basic, 0x24, []⟩
  | .dec_H => ⟨.basic, 0x25, []⟩
  | .ld_H_n o1 => ⟨.basic, 0x26, [o1]⟩
  | .jr_Z_e o1 => ⟨.basic, 0x28, [o1]⟩
  | .add_HL_HL => ⟨.basic, 0x29, []⟩
  | .ld_HL_inn o1 o2 => ⟨.basic, 0x2A, [o1, o2]⟩
  | .dec_HL => ⟨.basic, 0x2B, []⟩
  | .inc_L => ⟨.basic, 0x2C, []⟩
  | .dec_L => ⟨.basic, 0x2D, []⟩
  | .ld_L_n o1 => ⟨.basic, 0x2E, [o1]⟩
  | .jr_NC_e o1 => ⟨.basic, 0x30, [o1]⟩
  | .ld_inn_A o1 o2 => ⟨.basic, 0x32, [o1, o2]⟩
  | .jr_C_e o1 => ⟨.basic, 0x38, [o1]⟩
  | .inc_A => ⟨.basic, 0x3C, []⟩
  | .dec_A => ⟨.basic, 0x3D, []⟩
  | .ld_A_n o1 => ⟨.basic, 0x3E, [o1]⟩
  | .ld_B_B => ⟨.basic, 0x40, []⟩
  | .ld_B_C => ⟨.basic, 0x41, []⟩
  | .ld_B_D => ⟨.basic, 0x42, []⟩
  | .ld_B_E => ⟨.basic, 0x43, []⟩
  | .ld_B_H => ⟨.basic, 0x44, []⟩
  | .ld_B_L => ⟨.basic, 0x45, []⟩
  | .ld_B_iHL => ⟨.basic, 0x46, []⟩
  | .ld_B_A => ⟨.basic, 0x47, []⟩
  | .ld_C_B => ⟨.basic, 0x48, []⟩
  | .ld_C_C => ⟨.basic, 0x49, []⟩
  | .ld_C_D => ⟨.basic, 0x4A, []⟩
  | .ld_C_E => ⟨.basic, 0x4B, []⟩
  | .ld_C_H => ⟨.basic, 0x4C, []⟩
  | .ld_C_L => ⟨.basic, 0x4D, []⟩
  | .ld_C_iHL => ⟨.basic, 0x4E, []⟩
  | .ld_C_A => ⟨.basic, 0x4F, []⟩
  | .ld_D_B => ⟨.basic, 0x50, []⟩
  | .ld_D_C => ⟨.basic, 0x51, []⟩
  | .ld_D_D => ⟨.basic, 0x52, []⟩
  | .ld_D_E => ⟨.basic, 0x53, []⟩
  | .ld_D_H => ⟨.basic, 0x54, []⟩
  | .ld_D_L => ⟨.basic, 0x55, []⟩
  | .ld_D_iHL => ⟨.basic, 0x56, []⟩
  | .ld_D_A => ⟨.basic, 0x57, []⟩
  | .ld_E_B => ⟨.basic, 0x58, []⟩
  | .ld_E_C => ⟨.basic, 0x59, []⟩
  | .ld_E_D => ⟨.basic, 0x5A, []⟩
  | .ld_E_E => ⟨.basic, 0x5B, []⟩
  | .ld_E_H => ⟨.basic, 0x5C, []⟩
  | .ld_E_L => ⟨.basic, 0x5D, []⟩
  | .ld_E_iHL => ⟨.basic, 0x5E, []⟩
  | .ld_E_A => ⟨.basic, 0x5F, []⟩
  | .ld_H_B => ⟨.basic, 0x60, []⟩
  | .ld_H_C => ⟨.basic, 0x61, []⟩
  | .ld_H_D => ⟨.basic, 0x62, []⟩
  | .ld_H_E => ⟨.basic, 0x63, []⟩
  | .ld_H_H => ⟨.basic, 0x64, []⟩
  | .ld_H_L => ⟨.basic, 0x65, []⟩
  | .ld_H_iHL => ⟨.basic, 0x66, []⟩
  | .ld_H_A => ⟨.basic, 0x67, []⟩
  | .ld_L_B => ⟨.basic, 0x68, []⟩
  | .ld_L_C => ⟨.basic, 0x69, []⟩
  | .ld_L_D => ⟨.basic, 0x6A, []⟩
  | .ld_L_E => ⟨.basic, 0x6B, []⟩
  | .ld_L_H => ⟨.basic, 0x6C, []⟩
  | .ld_L_L => ⟨.basic, 0x6D, []⟩
  | .ld_L_iHL => ⟨.basic, 0x6E, []⟩
  | .ld_L_A => ⟨.basic, 0x6F, []⟩
  | .ld_iHL_B => ⟨.basic, 0x70, []⟩
  | .ld_iHL_C => ⟨.basic, 0x71, []⟩
  | .ld_iHL_D => ⟨.basic, 0x72, []⟩
  | .ld_iHL_E => ⟨.basic, 0x73, []⟩
  | .ld_iHL_H => ⟨.basic, 0x74, []⟩
  | .ld_iHL_L => ⟨.basic, 0x75, []⟩
  | .ld_iHL_A => ⟨.basic, 0x77, []⟩
  | .ld_A_B => ⟨.basic, 0x78, []⟩
  | .ld_A_C => ⟨.basic, 0x79, []⟩
  | .ld_A_D => ⟨.basic, 0x7A, []⟩
  | .ld_A_E => ⟨.basic, 0x7B, []⟩
  | .ld_A_H => ⟨.basic, 0x7C, []⟩
  | .ld_A_L => ⟨.basic, 0x7D, []⟩
  | .ld_A_iHL => ⟨.basic, 0x7E, []⟩
  | .ld_A_A => ⟨.basic, 0x7F, []⟩
  | .sub_B => ⟨.basic, 0x90, []⟩
  | .sub_C => ⟨.basic, 0x91, []⟩
  | .sub_D => ⟨.basic, 0x92, []⟩
  | .sub_E => ⟨.basic, 0x93, []⟩
  | .sub_H => ⟨.basic, 0x94, []⟩
  | .sub_L => ⟨.basic, 0x95, []⟩
  | .sub_A => ⟨.basic, 0x97, []⟩
  | .sbc_A_B => ⟨.basic, 0x98, []⟩
  | .sbc_A_C => ⟨.basic, 0x99, []⟩
  | .sbc_A_D => ⟨.basic, 0x9A, []⟩
  | .sbc_A_E => ⟨.basic, 0x9B, []⟩
  | .sbc_A_H => ⟨.basic, 0x9C, []⟩
  | .sbc_A_L => ⟨.basic, 0x9D, []⟩
  | .sbc_A_A => ⟨.basic, 0x9F, []⟩
  | .and_B => ⟨.basic, 0xA0, []⟩
  | .and_C => ⟨.basic, 0xA1, []⟩
  | .and_D => ⟨.basic, 0xA2, []⟩
  | .and_E => ⟨.basic, 0xA3, []⟩
  | .and_H => ⟨.basic, 0xA4, []⟩
  | .and_L => ⟨.basic, 0xA5, []⟩
  | .and_iHL => ⟨.basic, 0xA6, []⟩
  | .and_A => ⟨.basic, 0xA7, []⟩
  | .xor_B => ⟨.basic, 0xA8, []⟩
  | .xor_C => ⟨.basic, 0xA9, []⟩
  | .xor_D => ⟨.basic, 0xAA, []⟩
  | .xor_E => ⟨.basic, 0xAB, []⟩
  | .xor_H => ⟨.basic, 0xAC, []⟩
  | .xor_L => ⟨.basic, 0xAD, []⟩
  | .xor_iHL => ⟨.basic, 0xAE, []⟩
  | .xor_A => ⟨.basic, 0xAF, []⟩
  | .or_B => ⟨.basic, 0xB0, []⟩
  | .or_C => ⟨.basic, 0xB1, []⟩
  | .or_D => ⟨.basic, 0xB2, []⟩
  | .or_E => ⟨.basic, 0xB3, []⟩
  | .or_H => ⟨.basic, 0xB4, []⟩
  | .or_L => ⟨.basic, 0xB5, []⟩
  | .or_iHL => ⟨.basic, 0xB6, []⟩
  | .or_A => ⟨.basic, 0xB7, []⟩
  | .cp_B => ⟨.basic, 0xB8, []⟩
  | .cp_C => ⟨.basic, 0xB9, []⟩
  | .cp_D => ⟨.basic, 0xBA, []⟩
  | .cp_E => ⟨.basic, 0xBB, []⟩
  | .cp_H => ⟨.basic, 0xBC, []⟩
  | .cp_L => ⟨.basic, 0xBD, []⟩
  | .cp_A => ⟨.basic, 0xBF, []⟩
  | .ret_NZ => ⟨.basic, 0xC0, []⟩
  | .pop_BC => ⟨.basic, 0xC1, []⟩
  | .jp_NZ_nn o1 o2 => ⟨.basic, 0xC2, [o1, o2]⟩
  | .jp_nn o1 o2 => ⟨.basic, 0xC3, [o1, o2]⟩
  | .call_NZ_nn o1 o2 => ⟨.basic, 0xC4, [o1, o2]⟩
  | .push_BC => ⟨.basic, 0xC5, []⟩
  | .ret_Z => ⟨.basic, 0xC8, []⟩
  | .ret => ⟨.basic, 0xC9, []⟩
  | .jp_Z_nn o1 o2 => ⟨.basic, 0xCA, [o1, o2]⟩
  | .call_Z_nn o1 o2 => ⟨.basic, 0xCC, [o1, o2]⟩
  | .call_nn o1 o2 => ⟨.basic, 0xCD, [o1, o2]⟩
  | .ret_NC => ⟨.basic, 0xD0, []⟩
  | .pop_DE => ⟨.basic, 0xD1, []⟩
  | .jp_NC_nn o1 o2 => ⟨.basic, 0xD2, [o1, o2]⟩
  | .call_NC_nn o1 o2 => ⟨.basic, 0xD4, [o1, o2]⟩
  | .push_DE => ⟨.basic, 0xD5, []⟩
  | .ret_C => ⟨.basic, 0xD8, []⟩
  | .exx => ⟨.basic, 0xD9, []⟩
  | .jp_C_nn o1 o2 => ⟨.basic, 0xDA, [o1, o2]⟩
  | .call_C_nn o1 o2 => ⟨.basic, 0xDC, [o1, o2]⟩
  | .ret_PO => ⟨.basic, 0xE0, []⟩
  | .pop_HL => ⟨.basic, 0xE1, []⟩
  | .jp_PO_nn o1 o2 => ⟨.basic, 0xE2, [o1, o2]⟩
  | .call_PO_nn o1 o2 => ⟨.basic, 0xE4, [o1, o2]⟩
  | .push_HL => ⟨.basic, 0xE5, []⟩
  | .ret_PE => ⟨.basic, 0xE8, []⟩
  | .jp_PE_nn o1 o2 => ⟨.basic, 0xEA, [o1, o2]⟩
  | .ex_DE_HL => ⟨.basic, 0xEB, []⟩
  | .call_PE_nn o1 o2 => ⟨.basic, 0xEC, [o1, o2]⟩
  | .ret_P => ⟨.basic, 0xF0, []⟩
  | .pop_AF => ⟨.basic, 0xF1, []⟩
  | .jp_P_nn o1 o2 => ⟨.basic, 0xF2, [o1, o2]⟩
  | .di => ⟨.basic, 0xF3, []⟩
  | .call_P_nn o1 o2 => ⟨.basic, 0xF4, [o1, o2]⟩
  | .push_AF => ⟨.basic, 0xF5, []⟩
  | .ret_M => ⟨.basic, 0xF8, []⟩
  | .jp_M_nn o1 o2 => ⟨.basic, 0xFA, [o1, o2]⟩
  | .ei => ⟨.basic, 0xFB, []⟩
  | .call_M_nn o1 o2 => ⟨.basic, 0xFC, [o1, o2]⟩
  | .cp_n o1 => ⟨.basic, 0xFE, [o1]⟩
  | .out_iC_B => ⟨.extended, 0x41, []⟩
  | .im_0 => ⟨.extended, 0x46, []⟩
  | .out_iC_C => ⟨.extended, 0x49, []⟩
  | .out_iC_D => ⟨.extended, 0x51, []⟩
  | .im_1 => ⟨.extended, 0x56, []⟩
  | .out_iC_E => ⟨.extended, 0x59, []⟩
  | .im_2 => ⟨.extended, 0x5E, []⟩
  | .out_iC_H => ⟨.extended, 0x61, []⟩
  | .out_iC_L => ⟨.extended, 0x69, []⟩
  | .in_A_iC => ⟨.extended, 0x78, []⟩
  | .out_iC_A => ⟨.extended, 0x79, []⟩
  | .ldir => ⟨.extended, 0xB0, []⟩
  | .srl_B => ⟨.bit, 0x38, []⟩
  | .srl_C => ⟨.bit, 0x39, []⟩
  | .srl_D => ⟨.bit, 0x3A, []⟩
  | .srl_E => ⟨.bit, 0x3B, []⟩
  | .srl_H => ⟨.bit, 0x3C, []⟩
  | .srl_L => ⟨.bit, 0x3D, []⟩
  | .srl_A => ⟨.bit, 0x3F, []⟩
  | .add_IX_BC => ⟨.index, 0x09, []⟩
  | .add_IX_DE => ⟨.index, 0x19, []⟩
  | .ld_IX_nn o1 o2 => ⟨.index, 0x21, [o1, o2]⟩
  | .ld_inn_IX o1 o2 => ⟨.index, 0x22, [o1, o2]⟩
  | .inc_IX => ⟨.index, 0x23, []⟩
  | .add_IX_IX => ⟨.index, 0x29, []⟩
  | .ld_IX_inn o1 o2 => ⟨.index, 0x2A, [o1, o2]⟩
  | .dec_IX => ⟨.index, 0x2B, []⟩
  | .pop_IX => ⟨.index, 0xE1, []⟩
  | .push_IX => ⟨.index, 0xE5, []⟩

/-- The prefix bytes of a namespace: none, or the one byte that selects it (`30_encoding.md` rule R82). -/
def Namespace.prefixBytes : Namespace → List Byte
  | .basic => []
  | .bit => [0xCB]
  | .index => [0xDD]
  | .extended => [0xED]

/-- The bytes of a raw instruction, in ascending address order (`30_encoding.md` rule R80). -/
def Raw.bytes (r : Raw) : List Byte := r.ns.prefixBytes ++ r.op :: r.operands

/-- The bytes of an instruction, in ascending address order (`30_encoding.md` rule R80). -/
def encode (i : Instr) : List Byte := i.raw.bytes

/-- Every instruction is well formed as bytes: the check of WellFormed.lean on its raw form. -/
def Instr.wf (i : Instr) : Bool := i.raw.wf

/-! ### The decoder on a list of bytes -/

/-- Why a list of bytes gives no instruction: its opcode is unmapped, or it ends inside the instruction. -/
inductive DecodeError where
  | unmapped (u : Unmapped)
  | truncated
  deriving DecidableEq, Repr

/-- How many bytes Dispatch looks at: the opcode, and the prefix where there is one (`30_encoding.md` rule R81). -/
def dispatchBytes (b0 : Byte) : Nat := if (prefixNamespace b0).isSome then 2 else 1

/-- The first instruction of a list of bytes, with the bytes after it (`30_encoding.md` rule R81). The core itself
never meets the end of a list: its memory has no end (`20_memory.md` rule R51). -/
def decode (bytes : List Byte) : Except DecodeError (Instr × List Byte) :=
  let b0 := bytes.getD 0 0
  if bytes.length = 0 ∨ bytes.length < dispatchBytes b0 then .error .truncated
  else
    match decodeWindow b0 (bytes.getD 1 0) (bytes.getD 2 0) (bytes.getD 3 0) with
    | .error u => .error (.unmapped u)
    | .ok i =>
      if bytes.length < (encode i).length then .error .truncated
      else .ok (i, bytes.drop (encode i).length)

/-! ### The opcode table's numbering of an instruction word -/

/-- The four bytes at ascending addresses of an instruction given as a number `w` of `nbits` bits, every byte above
`nbits` zero. A lone opcode is the low byte. The table writes a prefixed pair with the prefix in the HIGH byte ("most
significant byte first", `30_encoding.md` rule R99), so a word whose second byte is a prefix and whose low byte is not
is read that way; the other order (prefix in the low byte) is read as it stands (log 8). -/
def tableBytes (nbits w : Nat) : List Byte :=
  let v := w % 2 ^ nbits
  let byte (k : Nat) : Byte := BitVec.ofNat 8 (v / 256 ^ k)
  if (prefixNamespace (byte 1)).isSome && (prefixNamespace (byte 0)).isNone then
    [byte 1, byte 0, byte 2, byte 3]
  else [byte 0, byte 1, byte 2, byte 3]

/-- The instruction the decoder reads from an opcode-table word. -/
def decodeTableWord (nbits w : Nat) : Option Instr :=
  match decode (tableBytes nbits w) with
  | .ok (i, _) => some i
  | .error _ => none

end Sys2Proof
end

