-- ==== Sys2Proof/Machine/Fetch.lean ====
section
/-! DEFINITION. Fetch, Dispatch and FetchOperands (`30_encoding.md` rule R81), and the placement of bytes into memory by the
host before the run (`20_memory.md` rule R62, `70_reset_and_hazards.md` rules R291, R292). -/

namespace Sys2Proof.Machine.State

/-- The instruction at `pc`, or the unmapped pair met there. The decoder is given the four bytes from `pc` on; it looks at the
prefix and opcode first and uses no byte beyond the instruction, and a memory read has no effect (log 10). -/
def fetch (s : State) : Except Unmapped Instr :=
  decodeWindow (s.fetchByte 0) (s.fetchByte 1) (s.fetchByte 2) (s.fetchByte 3)

/-- Place bytes at ascending addresses from `a` on, mod 65536: "memory bytes already placed into its address space"
(`20_memory.md` rule R62). -/
def placeBytes (s : State) (a : Word) : List Byte → State
  | [] => s
  | b :: bs => (s.writeByte a b).placeBytes (a + 1) bs

/-- The ROM loading contract (`20_memory.md` rule R62): 16 KiB go to 0x0000; of 32 KiB the second half goes to 0xC000; any other
length is `BadRomSize`, and the run does not start. -/
def placeRom (s : State) (rom : List Byte) : Result :=
  if rom.length = 16384 then .next (s.placeBytes 0x0000 rom)
  else if rom.length = 32768 then
    .next ((s.placeBytes 0x0000 (rom.take 16384)).placeBytes 0xC000 (rom.drop 16384))
  else .refused (.badRomSize rom.length)

/-- `run(start_address)`: set `pc`, and nothing else, before the first fetch (`70_reset_and_hazards.md` rule R292). -/
def run (s : State) (start : Word) : State := { s with pc := start }

end Sys2Proof.Machine.State
end

