-- ==== Sys2Proof/Machine/Step.lean ====
section
/-! DEFINITION. One step of the core is one whole instruction (`00_scope.md` rule R8, `30_encoding.md` rule R81). -/

namespace Sys2Proof.Machine

/-- One step. A state that records the fatal stop has no successor (`60_exceptions.md` rule R263); otherwise the instruction at
`pc` is fetched and executed, or its unmapped opcode raises the fatal stop (rule R261). -/
def step (s : State) : Host.Outcome State Fault Refusal :=
  match s.stop with
  | some u => raiseUnmapped u
  | none =>
    match s.fetch with
    | .ok i => exec i s
    | .error u => raiseUnmapped u

namespace State

/-- The state a step leaves: the next state, or, at the fatal stop, the same state with the stop recorded
(`60_exceptions.md` rule R262). -/
def settle (s : State) : State :=
  match step s with
  | .next t => t
  | .fault (.unmappedOpcode ns byte) => s.recordStop ⟨ns, byte⟩
  | .refused _ => s

/-- The state with an opcode-table word stored where `step` fetches its next instruction, at `pc`, and not stopped. It stands
for the host's placement of a program (log 6). -/
def withFetchWord (s : State) (nbits w : Nat) : State :=
  { s.placeBytes s.pc (tableBytes nbits w) with stop := none }

end State

end Sys2Proof.Machine
end

