-- ==== Sys2Proof/Safety.lean ====
section
/-! DEFINITION. The terms claims use: a run of the core, a safe run, the invariant of the machine, and, for the frame of an
instruction, the addresses it stores to. -/

namespace Sys2Proof.Machine

/-- `t` is reached from `s` in `n` steps, each of them completing an instruction. -/
def RunsTo : Nat → State → State → Prop
  | 0, s, t => s = t
  | n + 1, s, t => ∃ u, step s = .next u ∧ RunsTo n u t

/-- A safe run of `n` steps: it meets no fatal stop, the premise `60_exceptions.md` rule R263 asks of a claim. -/
def Safe (n : Nat) (s : State) : Prop := ∃ t, RunsTo n s t

/-- The invariant of the machine: memory keeps its canonical form; the two interrupt flip-flops agree (`DI` and `EI` write both,
`10_state.md` rule R33); `IY` is zero (rule R32); `sp` is odd, as it is at reset, every push and pop moving it by two
(`10_state.md` rule R29, `42_stack.md` rule R150). -/
structure State.Inv (s : State) : Prop where
  memory : Memory.wf s.cfg.memFill s.mem
  flipFlops : s.iff1 = s.iff2
  iyHigh : s.iyh = 0
  iyLow : s.iyl = 0
  stack : s.sp.getLsbD 0 = true

/-- The number of bytes `LDIR` copies: `BC`, and 65536 for `BC = 0` (`47_block_io_system.md` rule R220). -/
def blockCount (bc : Word) : Nat := if bc = 0 then 65536 else bc.toNat

/-- The two cells a push writes (`42_stack.md` rule R150). -/
def State.pushes (s : State) (a : Word) : Bool := a == s.sp - 1 || a == s.sp - 2

/-- Does the instruction, executed in this state, store to this address? Every form that stores is listed with the address
expression its meaning uses; no other form of the catalog stores (`20_memory.md` rule R50). -/
def storesTo (i : Instr) (s : State) (a : Word) : Bool :=
  match i with
  | .ld_iBC_A => a == s.pair .BC
  | .ld_iDE_A => a == s.pair .DE
  | .ld_iHL_B | .ld_iHL_C | .ld_iHL_D | .ld_iHL_E | .ld_iHL_H | .ld_iHL_L | .ld_iHL_A => a == s.pair .HL
  | .ld_inn_A o1 o2 | .ld_inn_HL o1 o2 | .ld_inn_IX o1 o2 => a == s.imm o1 o2
  | .push_BC | .push_DE | .push_HL | .push_AF | .push_IX => s.pushes a
  | .call_nn _ _ => s.pushes a
  | .call_NZ_nn _ _ => s.cond .NZ && s.pushes a
  | .call_Z_nn _ _ => s.cond .Z && s.pushes a
  | .call_NC_nn _ _ => s.cond .NC && s.pushes a
  | .call_C_nn _ _ => s.cond .C && s.pushes a
  | .call_PO_nn _ _ => s.cond .PO && s.pushes a
  | .call_PE_nn _ _ => s.cond .PE && s.pushes a
  | .call_P_nn _ _ => s.cond .P && s.pushes a
  | .call_M_nn _ _ => s.cond .M && s.pushes a
  | .ldir => decide ((a - s.pair .DE).toNat < blockCount (s.pair .BC))
  | _ => false

/-- The control-transfer instructions of `45_control.md`: the only ones that assign `pc` themselves. -/
def isTransfer : Instr → Bool
  | .jp_nn _ _ | .jp_NZ_nn _ _ | .jp_Z_nn _ _ | .jp_NC_nn _ _ | .jp_C_nn _ _ | .jp_PO_nn _ _ | .jp_PE_nn _ _
  | .jp_P_nn _ _ | .jp_M_nn _ _ => true
  | .call_nn _ _ | .call_NZ_nn _ _ | .call_Z_nn _ _ | .call_NC_nn _ _ | .call_C_nn _ _ | .call_PO_nn _ _
  | .call_PE_nn _ _ | .call_P_nn _ _ | .call_M_nn _ _ => true
  | .ret | .ret_NZ | .ret_Z | .ret_NC | .ret_C | .ret_PO | .ret_PE | .ret_P | .ret_M => true
  | .jr_e _ | .jr_NZ_e _ | .jr_Z_e _ | .jr_NC_e _ | .jr_C_e _ | .djnz_e _ => true
  | _ => false

/-! ### Frames: what a statement says an instruction leaves alone -/

/-- Outside the main bank, `pc` and the reported cost the two states are equal, and every byte of memory reads as before. -/
def OnlyMain (s t : State) : Prop :=
  t = { s with main := t.main, pc := t.pc, cycles := t.cycles } ∧ ∀ a, t.readByte a = s.readByte a

/-- Outside `IX`, the main bank, `pc` and the reported cost the two states are equal, and every byte of memory reads as
before. -/
def OnlyMainAndIX (s t : State) : Prop :=
  t = { s with main := t.main, ixh := t.ixh, ixl := t.ixl, pc := t.pc, cycles := t.cycles } ∧
  ∀ a, t.readByte a = s.readByte a

/-- Outside `pc` and the reported cost the two states are equal. -/
def OnlyPc (s t : State) : Prop := t = { s with pc := t.pc, cycles := t.cycles }

/-- Outside memory, `pc` and the reported cost the two states are equal, and only the byte at `a` may read differently. -/
def OnlyByteAt (a : Word) (s t : State) : Prop :=
  t = { s with mem := t.mem, pc := t.pc, cycles := t.cycles } ∧ ∀ b, b ≠ a → t.readByte b = s.readByte b

/-- Outside memory, `sp`, `pc` and the reported cost the two states are equal, and only the two cells below `sp` may read
differently. -/
def OnlyPushed (s t : State) : Prop :=
  t = { s with mem := t.mem, sp := t.sp, pc := t.pc, cycles := t.cycles } ∧
  ∀ b, b ≠ s.sp - 1 → b ≠ s.sp - 2 → t.readByte b = s.readByte b

/-- The general registers outside a list are unchanged. -/
def KeepsRegs (but : List Reg) (s t : State) : Prop := ∀ r, r ∉ but → t.reg r = s.reg r

/-- The flags outside a list are unchanged, and so are bits 5 and 3 of `F` (`10_state.md` rule R24). -/
def KeepsFlags (but : List Flag) (s t : State) : Prop :=
  (∀ fl, fl ∉ but → t.flag fl = s.flag fl) ∧
  t.main.f.getLsbD 5 = s.main.f.getLsbD 5 ∧ t.main.f.getLsbD 3 = s.main.f.getLsbD 3

/-- The two registers of a pair among `B C D E H L` (`10_state.md` rule R22); `AF` has one of them, `IX` none. -/
def pairRegs : Pair → List Reg
  | .BC => [.B, .C]
  | .DE => [.D, .E]
  | .HL => [.H, .L]
  | .AF => [.A]
  | .IX => []

/-- Memory as a function of addresses, after `n` bytes are copied one at a time in ascending order, each read after all earlier
writes (`47_block_io_system.md` rule R220). -/
def copyBytes (read : Word → Byte) (src dst : Word) : Nat → Word → Byte
  | 0 => read
  | n + 1 => fun a =>
    let before := copyBytes read src dst n
    if a = dst + BitVec.ofNat 16 n then before (src + BitVec.ofNat 16 n) else before a

/-- The state with other values in the registers no instruction reads: `iff1`, `iff2`, `im`, `IY`, and the reported cost
`cycles` (`10_state.md` rules R32 to R34, `70_reset_and_hazards.md` rule R300). -/
def State.withUnread (s : State) (f1 f2 : Bool) (m : IntMode) (yh yl : Byte) (n : Nat) : State :=
  { s with iff1 := f1, iff2 := f2, im := m, iyh := yh, iyl := yl, cycles := n }

/-! ### The field codes of the opcode byte (`10_state.md` rules R21, R22, `30_encoding.md` rule R89), for statements of encodings -/

end Sys2Proof.Machine

namespace Sys2Proof

/-- The 3-bit code of a register; 6 names no register (`10_state.md` rule R21). -/
def Reg.code : Reg → Byte
  | .B => 0
  | .C => 1
  | .D => 2
  | .E => 3
  | .H => 4
  | .L => 5
  | .A => 7

/-- The 3-bit code of the operand `s`: a register's, or 6 for the byte at `rp[HL]` (`10_state.md` rule R21). -/
def Src.code : Src → Byte
  | .reg r => r.code
  | .iHL => 6

/-- The 2-bit code `rr`. -/
def Rr.code : Rr → Byte
  | .BC => 0
  | .DE => 1
  | .HL => 2

/-- The 2-bit code `qq`. -/
def Qq.code : Qq → Byte
  | .BC => 0
  | .DE => 1
  | .HL => 2
  | .AF => 3

/-- The 2-bit code `pp`. -/
def Pp.code : Pp → Byte
  | .BC => 0
  | .DE => 1
  | .IX => 2

/-- The 2-bit code of a pair that only addresses memory. -/
def PtrPair.code : PtrPair → Byte
  | .BC => 0
  | .DE => 1

/-- The 3-bit code `cc`. -/
def Cond.code : Cond → Byte
  | .NZ => 0
  | .Z => 1
  | .NC => 2
  | .C => 3
  | .PO => 4
  | .PE => 5
  | .P => 6
  | .M => 7

/-- The 2-bit code `cc'`. -/
def RelCond.code : RelCond → Byte
  | .NZ => 0
  | .Z => 1
  | .NC => 2
  | .C => 3

end Sys2Proof
end

