-- ==== Sys2Proof/Certificates/Slice0/Obligations.lean ====
section
/-! DEFINITION. The statements about the model, one per definition. The helpers they use (frames, runs, stored addresses) are in
Safety.lean; the selectors such as `Instr.inc_r` name the rows of one shape and are in Syntax.lean. -/

open Sys2Proof Sys2Proof.Machine

/-- For every configuration, the state after reset has every main and shadow register, IX and IY at zero, pc at
0x0000, sp at 0xFFFF, both interrupt flip-flops false, interrupt mode 0, no fatal-stop record, and every byte
of memory equal to MEM_FILL; run(start) then overwrites pc, and nothing else. Formalises R37. -/
def Obligations.ResetValues : Prop :=
  ∀ cfg : Config,
    let s := State.resetWith cfg
    (∀ r, s.reg r = 0) ∧ s.main.f = 0 ∧
    s.shadow = ⟨0, 0, 0, 0, 0, 0, 0, 0⟩ ∧
    s.ixh = 0 ∧ s.ixl = 0 ∧ s.iyh = 0 ∧ s.iyl = 0 ∧
    s.pc = 0x0000 ∧ s.sp = 0xFFFF ∧
    s.iff1 = false ∧ s.iff2 = false ∧ s.im = .im0 ∧ s.stop = none ∧
    (∀ a, s.readByte a = cfg.memFill) ∧ ∀ start, s.run start = { s with pc := start }

/-- For every configuration the state after reset meets State.Inv: memory canonical, iff1 = iff2, IY zero, sp odd.
Rests on R29, R32, R33, R37. -/
def Obligations.ResetMeetsInvariant : Prop :=
  ∀ cfg : Config, (State.resetWith cfg).Inv

/-- From every state that meets State.Inv (memory in canonical form inside the 65536-byte space, iff1 = iff2, IY
zero, sp odd), whatever instruction the step runs, the next state meets it. Rests on R24, R29, R32, R33, R50,
R52, R150. -/
def Obligations.StepKeepsInvariant : Prop :=
  ∀ s t : State, s.Inv → step s = .next t → t.Inv

/-- For every configuration, every image the host places at any address and every start address, every state
reached in any number of steps meets State.Inv, records no fatal stop, and still has the configuration it was
built with. Rests on R29, R32, R33, R37, R50, R52, R62, R150, R291, R292. -/
def Obligations.EveryReachedStateMeetsInvariant : Prop :=
  ∀ (cfg : Config) (at_ : Word) (image : List Byte) (start : Word) (n : Nat) (t : State),
    RunsTo n (((State.resetWith cfg).placeBytes at_ image).run start) t →
    t.Inv ∧ t.stop = none ∧ t.cfg = cfg

/-- For every instruction of the catalog, with every value of its operand bytes, and every list of bytes after it,
decode of its encoding followed by that list is the instruction with exactly that list left over. Rests on
R80, R81, R91, R92, R93, R94. -/
def Obligations.DecodeEncodeRoundTrip : Prop :=
  ∀ (i : Instr) (rest : List Byte), decode (encode i ++ rest) = .ok (i, rest)

/-- Whenever four bytes decode to an instruction, its encoding is what they begin with, so no two different byte
sequences of an instruction share a meaning. Rests on R80, R81, R83, R99. -/
def Obligations.DecodedBytesAreTheEncoding : Prop :=
  ∀ (b0 b1 b2 b3 : Byte) (i : Instr),
    decodeWindow b0 b1 b2 b3 = .ok i → encode i <+: [b0, b1, b2, b3]

/-- A first byte that is no prefix is rejected, by the pair (basic, byte), exactly when it is one of the 57 listed
bytes; after the prefixes 0xED, 0xCB and 0xDD the second byte is rejected, by its pair, exactly when it is not
one of the 12, 7 and 10 mapped bytes. Formalises R95. -/
def Obligations.UnmappedSets : Prop :=
  ∀ b0 b1 b2 b3 : Byte,
    (decodeWindow b0 b1 b2 b3 = .error ⟨.basic, b0⟩ ↔ b0 ∈ ([
      0x00, 0x0F, 0x17, 0x1F, 0x27, 0x2F, 0x31, 0x33, 0x34, 0x35, 0x36, 0x37, 0x39, 0x3A, 0x3B, 0x3F, 0x76,
      0x80, 0x81, 0x82, 0x83, 0x84, 0x85, 0x86, 0x87, 0x88, 0x89, 0x8A, 0x8B, 0x8C, 0x8D, 0x8E, 0x8F,
      0x96, 0x9E, 0xBE, 0xC6, 0xC7, 0xCE, 0xCF, 0xD3, 0xD6, 0xD7, 0xDB, 0xDE, 0xDF,
      0xE3, 0xE6, 0xE7, 0xE9, 0xEE, 0xEF, 0xF6, 0xF7, 0xF9, 0xFD, 0xFF] : List Byte)) ∧
    (decodeWindow 0xED b1 b2 b3 = .error ⟨.extended, b1⟩ ↔ b1 ∉ ([
      0x41, 0x46, 0x49, 0x51, 0x56, 0x59, 0x5E, 0x61, 0x69, 0x78, 0x79, 0xB0] : List Byte)) ∧
    (decodeWindow 0xCB b1 b2 b3 = .error ⟨.bit, b1⟩ ↔ b1 ∉ ([
      0x38, 0x39, 0x3A, 0x3B, 0x3C, 0x3D, 0x3F] : List Byte)) ∧
    (decodeWindow 0xDD b1 b2 b3 = .error ⟨.index, b1⟩ ↔ b1 ∉ ([
      0x09, 0x19, 0x21, 0x22, 0x23, 0x29, 0x2A, 0x2B, 0xE1, 0xE5] : List Byte))

/-- One word of each family, written from the spec: 04 INC B, 09 ADD HL,BC, 21 o1 o2 LD HL,nn, 78 LD A,B, C5 PUSH
BC, 07 RLCA, CB 3F SRL A, A6 AND (HL), FE n CP n, C2 o1 o2 JP NZ,nn, 10 e DJNZ, 08 EX AF,AF', ED B0 LDIR, ED
79 OUT (C),A, DD 22 o1 o2 LD (nn),IX; and 76, DD CB are rejected by name. Rests on R91, R92, R93, R94, R95. -/
def Obligations.SpecWordsDecode : Prop :=
  decode [0x04] = .ok (.inc_B, []) ∧
    decode [0x09] = .ok (.add_HL_BC, []) ∧
    decode [0x21, 0x12, 0x34] = .ok (.ld_HL_nn 0x12 0x34, []) ∧
    decode [0x78] = .ok (.ld_A_B, []) ∧
    decode [0xC5] = .ok (.push_BC, []) ∧
    decode [0x07] = .ok (.rlca, []) ∧
    decode [0xCB, 0x3F] = .ok (.srl_A, []) ∧
    decode [0xA6] = .ok (.and_iHL, []) ∧
    decode [0xFE, 0x20] = .ok (.cp_n 0x20, []) ∧
    decode [0xC2, 0x12, 0x34] = .ok (.jp_NZ_nn 0x12 0x34, []) ∧
    decode [0x10, 0xFE] = .ok (.djnz_e 0xFE, []) ∧
    decode [0x08] = .ok (.ex_AF, []) ∧
    decode [0xED, 0xB0] = .ok (.ldir, []) ∧
    decode [0xED, 0x79] = .ok (.out_iC_A, []) ∧
    decode [0xDD, 0x22, 0x40, 0x00] = .ok (.ld_inn_IX 0x40 0x00, []) ∧
    decode [0x76] = .error (.unmapped ⟨.basic, 0x76⟩) ∧
    decode [0xDD, 0xCB] = .error (.unmapped ⟨.index, 0xCB⟩)

/-- In a state that records no fatal stop, where the four bytes from pc on decode to an instruction, the step is
that instruction executed in that same state; nothing is added around it. Rests on R8, R81. -/
def Obligations.StepRunsDecodedInstruction : Prop :=
  ∀ (s : State) (i : Instr), s.stop = none →
    decodeWindow (s.readByte s.pc) (s.readByte (s.pc + 1)) (s.readByte (s.pc + 2)) (s.readByte (s.pc + 3)) = .ok i →
    step s = exec i s

/-- For every instruction of the catalog: in a state that records no fatal stop, where the bytes of its encoding
stand at pc, pc + 1, ... (mod 65536), whatever follows them, the step is that instruction executed in that
state. Rests on R27, R55, R80, R81, R86. -/
def Obligations.StepRunsEncodedInstruction : Prop :=
  ∀ (s : State) (i : Instr), s.stop = none →
    (∀ k, k < (encode i).length → s.readByte (s.pc + BitVec.ofNat 16 k) = (encode i).getD k 0) →
    step s = exec i s

/-- In a state that records no fatal stop, where the opcode at pc (after a prefix, the byte after it) is unmapped,
the step is the fault UnmappedOpcode with that namespace and byte; the state left differs only in the record,
pc staying at the first byte; and every further step of it is the same fault. The raise of the pair is R261;
that pc stays at the first byte is the choice of the spec that R262 names (D16); that the stop is permanent is
R263 read through the record and the settled state of the model (log 5, DEDUCED). Rests on R261, R262, R263. -/
def Obligations.FatalStop : Prop :=
  ∀ s : State, s.stop = none →
    (∀ ns, prefixNamespace (s.readByte s.pc) = some ns → catalog ns (s.readByte (s.pc + 1)) = none →
      step s = .fault (.unmappedOpcode ns (s.readByte (s.pc + 1))) ∧
      s.settle = { s with stop := some ⟨ns, s.readByte (s.pc + 1)⟩ } ∧
      step s.settle = .fault (.unmappedOpcode ns (s.readByte (s.pc + 1)))) ∧
    (prefixNamespace (s.readByte s.pc) = none → catalog .basic (s.readByte s.pc) = none →
      step s = .fault (.unmappedOpcode .basic (s.readByte s.pc)) ∧
      s.settle = { s with stop := some ⟨.basic, s.readByte s.pc⟩ } ∧
      step s.settle = .fault (.unmappedOpcode .basic (s.readByte s.pc)))

/-- For every instruction of the catalog and every state, execution answers a next state: no instruction raises a
fault or is refused, whatever its operands, addresses and the state. Rests on R261, R268, R269, R275. -/
def Obligations.EveryInstructionCompletes : Prop :=
  ∀ (i : Instr) (s : State), ∃ t, exec i s = .next t

/-- Each pair reads as high register times 256 plus low register (BC, DE, HL, AF, IX); writing a pair writes v /
256 to the first-named register and v mod 256 to the other, so that the pair then reads as v, and leaves every
register outside the pair alone. Rests on R7, R22, R31. -/
def Obligations.PairsAreHighRegisterFirst : Prop :=
  ∀ s : State,
    (s.pair .BC).toNat = (s.reg .B).toNat * 256 + (s.reg .C).toNat ∧
    (s.pair .DE).toNat = (s.reg .D).toNat * 256 + (s.reg .E).toNat ∧
    (s.pair .HL).toNat = (s.reg .H).toNat * 256 + (s.reg .L).toNat ∧
    (s.pair .AF).toNat = (s.reg .A).toNat * 256 + s.main.f.toNat ∧
    (s.pair .IX).toNat = s.ixh.toNat * 256 + s.ixl.toNat ∧
    ∀ (p : Pair) (v : Word),
      (s.setPair p v).pair p = v ∧ (∀ q, q ≠ p → (s.setPair p v).pair q = s.pair q) ∧
      KeepsRegs (pairRegs p) s (s.setPair p v)

/-- imm16(o1, o2) is o1 * 256 + o2 under high_first and o2 * 256 + o1 under low_first; every 16-bit immediate of a
state uses the order the state was built with. Formalises R88. -/
def Obligations.ImmediateByteOrder : Prop :=
  ∀ (o1 o2 : Byte) (s : State),
    (imm16 .highFirst o1 o2).toNat = o1.toNat * 256 + o2.toNat ∧
    (imm16 .lowFirst o1 o2).toNat = o2.toNat * 256 + o1.toNat ∧
    s.imm o1 o2 = imm16 s.cfg.imm16Order o1 o2 ∧
    Config.standard.imm16Order = .highFirst

/-- NZ, Z test bit 6 of F clear, set; NC, C bit 0; PO, PE bit 2; P, M bit 7. Formalises R100. -/
def Obligations.ConditionsTestOneFlagBit : Prop :=
  ∀ s : State,
    s.cond .NZ = !s.main.f.getLsbD 6 ∧ s.cond .Z = s.main.f.getLsbD 6 ∧
    s.cond .NC = !s.main.f.getLsbD 0 ∧ s.cond .C = s.main.f.getLsbD 0 ∧
    s.cond .PO = !s.main.f.getLsbD 2 ∧ s.cond .PE = s.main.f.getLsbD 2 ∧
    s.cond .P = !s.main.f.getLsbD 7 ∧ s.cond .M = s.main.f.getLsbD 7

/-- S, Z, H, PV, N, C are bits 7, 6, 4, 2, 1, 0 of F, masks 0x80, 0x40, 0x10, 0x04, 0x02, 0x01; after flag.X <- b
that bit of F is b and each of the other seven bits, 5 and 3 among them, is as before. The bits and masks are
R23; that a flag write leaves the other bits alone is the first part of R24, whose other parts stand in other
statements. Rests on R23, R24. -/
def Obligations.FlagWritesTouchOneBit : Prop :=
  ∀ (fl : Flag) (b : Bool) (f : Byte) (k : Nat), k < 8 →
    (fl.put b f).getLsbD k = (if k = fl.bit then b else f.getLsbD k) ∧
    (Flag.bit .S = 7 ∧ Flag.bit .Z = 6 ∧ Flag.bit .H = 4 ∧ Flag.bit .PV = 2 ∧ Flag.bit .N = 1 ∧ Flag.bit .C = 0) ∧
    (Flag.mask .S = 0x80 ∧ Flag.mask .Z = 0x40 ∧ Flag.mask .H = 0x10 ∧ Flag.mask .PV = 0x04 ∧ Flag.mask .N = 0x02 ∧
      Flag.mask .C = 0x01) ∧
    fl.get f = f.getLsbD fl.bit

/-- INC r completes in every state, for each of the seven registers: r becomes r + 1 mod 256; PV is bit 7 of the
result, H is 1 exactly when the low nibble was 0xF, N is 0; S, Z, C, bits 5 and 3, the other registers, all
other state and every byte of memory are unchanged; pc advances by 1. Its encoding is 04 + 8 r. Formalises
R120. -/
def Obligations.IncRegister : Prop :=
  ∀ (r : Reg) (s : State),
    (encode (.inc_r r) = [0x04 + 8 * r.code]) ∧
    ∃ t, exec (.inc_r r) s = .next t ∧
    (t.reg r).toNat = ((s.reg r).toNat + 1) % 256 ∧
    t.flag .PV = (t.reg r).getLsbD 7 ∧
    t.flag .H = decide ((s.reg r).toNat % 16 = 15) ∧
    t.flag .N = false ∧
    KeepsFlags [.PV, .H, .N] s t ∧ KeepsRegs [r] s t ∧ t.pc = s.pc + 1 ∧ OnlyMain s t

/-- DEC r completes in every state: r becomes r - 1 mod 256; PV and S are bit 7 of the result, Z is 1 exactly when
it is zero, H is 1 exactly when the low nibble was 0, N is 1; C, bits 5 and 3, the other registers, all other
state and every byte of memory are unchanged; pc advances by 1. Its encoding is 05 + 8 r. Formalises R121. -/
def Obligations.DecRegister : Prop :=
  ∀ (r : Reg) (s : State),
    (encode (.dec_r r) = [0x05 + 8 * r.code]) ∧
    ∃ t, exec (.dec_r r) s = .next t ∧
    (t.reg r).toNat = ((s.reg r).toNat + 255) % 256 ∧
    t.flag .PV = (t.reg r).getLsbD 7 ∧
    t.flag .S = (t.reg r).getLsbD 7 ∧
    t.flag .Z = decide ((t.reg r).toNat = 0) ∧
    t.flag .H = decide ((s.reg r).toNat % 16 = 0) ∧
    t.flag .N = true ∧
    KeepsFlags [.S, .Z, .PV, .H, .N] s t ∧ KeepsRegs [r] s t ∧ t.pc = s.pc + 1 ∧ OnlyMain s t

/-- INC rr and DEC rr complete in every state: the pair becomes pair + 1, pair - 1 mod 65536, N becomes 0, 1;
every other flag, bits 5 and 3, the registers outside the pair, all other state and every byte of memory are
unchanged; pc advances by 1. The encodings are 03 + 16 rr, 0B + 16 rr. Formalises R122, R123. -/
def Obligations.IncDecPair : Prop :=
  ∀ (p : Rr) (s : State),
    (encode (.inc_rr p) = [0x03 + 16 * p.code] ∧ encode (.dec_rr p) = [0x0B + 16 * p.code]) ∧
    (∃ t, exec (.inc_rr p) s = .next t ∧
      (t.pair p.pair).toNat = ((s.pair p.pair).toNat + 1) % 65536 ∧ t.flag .N = false ∧
      KeepsFlags [.N] s t ∧ KeepsRegs (pairRegs p.pair) s t ∧ t.pc = s.pc + 1 ∧ OnlyMain s t) ∧
    (∃ t, exec (.dec_rr p) s = .next t ∧
      (t.pair p.pair).toNat = ((s.pair p.pair).toNat + 65535) % 65536 ∧ t.flag .N = true ∧
      KeepsFlags [.N] s t ∧ KeepsRegs (pairRegs p.pair) s t ∧ t.pc = s.pc + 1 ∧ OnlyMain s t)

/-- ADD HL,rr completes in every state, HL itself as source included: HL becomes the sum mod 65536; C is 1 exactly
when the sum exceeds 0xFFFF, H is 1 exactly when bit 3 of both operands is 1, N is 1; S, Z, PV, bits 5 and 3,
the registers outside HL, all other state and every byte of memory are unchanged; pc advances by 1. Its
encoding is 09 + 16 rr. Formalises R124. -/
def Obligations.AddPairToHL : Prop :=
  ∀ (p : Rr) (s : State),
    (encode (.add_HL_rr p) = [0x09 + 16 * p.code]) ∧
    ∃ t, exec (.add_HL_rr p) s = .next t ∧
    (t.pair .HL).toNat = ((s.pair .HL).toNat + (s.pair p.pair).toNat) % 65536 ∧
    t.flag .C = decide ((s.pair .HL).toNat + (s.pair p.pair).toNat > 0xFFFF) ∧
    t.flag .H = ((s.pair .HL).getLsbD 3 && (s.pair p.pair).getLsbD 3) ∧
    t.flag .N = true ∧
    KeepsFlags [.C, .H, .N] s t ∧ KeepsRegs [.H, .L] s t ∧ t.pc = s.pc + 1 ∧ OnlyMain s t

/-- LD r,n and LD r,r' complete in every state: r becomes the immediate byte, the source register (a register
loaded from itself keeps its value); F, the other registers, all other state and every byte of memory are
unchanged; pc advances by 2, by 1. The encodings are 06 + 8 r then n, and 40 + 8 r + r'. Formalises R130,
R131. -/
def Obligations.LoadRegister : Prop :=
  ∀ (r r' : Reg) (n : Byte) (s : State),
    (encode (.ld_r_n n r) = [0x06 + 8 * r.code, n] ∧ encode (.ld_r_r r r') = [0x40 + 8 * r.code + r'.code]) ∧
    (∃ t, exec (.ld_r_n n r) s = .next t ∧ t.reg r = n ∧
      t.main.f = s.main.f ∧ KeepsRegs [r] s t ∧ t.pc = s.pc + 2 ∧ OnlyMain s t) ∧
    (∃ t, exec (.ld_r_r r r') s = .next t ∧ t.reg r = s.reg r' ∧
      t.main.f = s.main.f ∧ KeepsRegs [r] s t ∧ t.pc = s.pc + 1 ∧ OnlyMain s t)

/-- LD rr,nn completes in every state: the pair becomes the immediate, so that with high_first the high register
receives o1 and the low register o2, and with low_first the reverse; F, the registers outside the pair, all
other state and every byte of memory are unchanged; pc advances by 3. Its encoding is 01 + 16 rr then o1 o2.
Formalises R136. -/
def Obligations.LoadPairImmediate : Prop :=
  ∀ (p : Rr) (o1 o2 : Byte) (s : State),
    (encode (.ld_rr_nn o1 o2 p) = [0x01 + 16 * p.code, o1, o2]) ∧
    ∃ t, exec (.ld_rr_nn o1 o2 p) s = .next t ∧
    t.pair p.pair = s.imm o1 o2 ∧
    (s.cfg.imm16Order = .highFirst → (t.pair p.pair).toNat = o1.toNat * 256 + o2.toNat) ∧
    (s.cfg.imm16Order = .lowFirst → (t.pair p.pair).toNat = o2.toNat * 256 + o1.toNat) ∧
    t.main.f = s.main.f ∧ KeepsRegs (pairRegs p.pair) s t ∧ t.pc = s.pc + 3 ∧ OnlyMain s t

/-- These loads complete in every state: the destination becomes the byte at the address in the pair as it was
before (LD H,(HL) and LD L,(HL) included); F, the other registers, all other state and every byte of memory
are unchanged; pc advances by 1. The encodings are 46 + 8 r, and 0A, 1A. Formalises R132, R134. -/
def Obligations.LoadFromPairAddress : Prop :=
  ∀ s : State,
    ((∀ r : Reg, encode (.ld_r_iHL r) = [0x46 + 8 * r.code]) ∧ (∀ p : PtrPair, encode (.ld_A_irr p) = [0x0A + 16 * p.code])) ∧
    (∀ r : Reg, ∃ t, exec (.ld_r_iHL r) s = .next t ∧ t.reg r = s.readByte (s.pair .HL) ∧
      t.main.f = s.main.f ∧ KeepsRegs [r] s t ∧ t.pc = s.pc + 1 ∧ OnlyMain s t) ∧
    (∀ p : PtrPair, ∃ t, exec (.ld_A_irr p) s = .next t ∧ t.reg .A = s.readByte (s.pair p.pair) ∧
      t.main.f = s.main.f ∧ KeepsRegs [.A] s t ∧ t.pc = s.pc + 1 ∧ OnlyMain s t)

/-- These stores complete in every state: the byte at the address in HL, in BC or DE, or in the immediate, becomes
the register; every byte at another address, every register, F and all other state are unchanged; pc advances
by 1, 1, 3. The encodings are 70 + r; 02, 12; 32 then o1 o2. Formalises R133, R135, R138. -/
def Obligations.StoreRegister : Prop :=
  ∀ s : State,
    ((∀ r : Reg, encode (.ld_iHL_r r) = [0x70 + r.code]) ∧ (∀ p : PtrPair, encode (.ld_irr_A p) = [0x02 + 16 * p.code]) ∧
    (∀ o1 o2 : Byte, encode (.ld_inn_A o1 o2) = [0x32, o1, o2])) ∧
    (∀ r : Reg, ∃ t, exec (.ld_iHL_r r) s = .next t ∧ t.readByte (s.pair .HL) = s.reg r ∧
      t.pc = s.pc + 1 ∧ OnlyByteAt (s.pair .HL) s t) ∧
    (∀ p : PtrPair, ∃ t, exec (.ld_irr_A p) s = .next t ∧ t.readByte (s.pair p.pair) = s.reg .A ∧
      t.pc = s.pc + 1 ∧ OnlyByteAt (s.pair p.pair) s t) ∧
    (∀ o1 o2 : Byte, ∃ t, exec (.ld_inn_A o1 o2) s = .next t ∧ t.readByte (s.imm o1 o2) = s.reg .A ∧
      t.pc = s.pc + 3 ∧ OnlyByteAt (s.imm o1 o2) s t)

/-- LD (nn),HL completes in every state: only the byte at nn changes, to L; H is stored nowhere and every other
byte reads as before. LD HL,(nn) completes in every state: L becomes the byte at nn; H, the other registers,
F, all other state and every byte of memory are unchanged. pc advances by 3. The encodings are 22, 2A then o1
o2. Formalises R139, R140. -/
def Obligations.PairMemoryMovesLowByteOnly : Prop :=
  ∀ (o1 o2 : Byte) (s : State),
    (encode (.ld_inn_HL o1 o2) = [0x22, o1, o2] ∧ encode (.ld_HL_inn o1 o2) = [0x2A, o1, o2]) ∧
    (∃ t, exec (.ld_inn_HL o1 o2) s = .next t ∧ t.readByte (s.imm o1 o2) = s.reg .L ∧
      t.pc = s.pc + 3 ∧ OnlyByteAt (s.imm o1 o2) s t) ∧
    (∃ t, exec (.ld_HL_inn o1 o2) s = .next t ∧ t.reg .L = s.readByte (s.imm o1 o2) ∧
      t.main.f = s.main.f ∧ KeepsRegs [.L] s t ∧ t.pc = s.pc + 3 ∧ OnlyMain s t)

/-- PUSH qq completes in every state and for every sp: the high half of the pair is stored at sp - 1 and the low
half at sp - 2 (for AF, A and all eight bits of F), sp becomes sp - 2, all mod 65536; every other byte, every
register, F and all other state are unchanged; pc advances by 1. Its encoding is C5 + 16 qq. Formalises R151. -/
def Obligations.PushPair : Prop :=
  ∀ (q : Qq) (s : State),
    (encode (.push_qq q) = [0xC5 + 16 * q.code]) ∧
    ∃ t, exec (.push_qq q) s = .next t ∧
    (t.readByte (s.sp - 1)).toNat = (s.pair q.pair).toNat / 256 ∧
    (t.readByte (s.sp - 2)).toNat = (s.pair q.pair).toNat % 256 ∧
    t.sp = s.sp - 2 ∧ t.pc = s.pc + 1 ∧ OnlyPushed s t

/-- POP qq completes in every state and for every sp: the pair becomes the byte at sp + 1 times 256 plus the byte
at sp; sp becomes sp + 2, mod 65536; F is unchanged except by POP AF, which replaces all eight bits by the
byte at sp; the registers outside the pair, all other state and every byte of memory are unchanged; pc
advances by 1. Its encoding is C1 + 16 qq. Formalises R152. -/
def Obligations.PopPair : Prop :=
  ∀ (q : Qq) (s : State),
    (encode (.pop_qq q) = [0xC1 + 16 * q.code]) ∧
    ∃ t, exec (.pop_qq q) s = .next t ∧
    (t.pair q.pair).toNat = (s.readByte (s.sp + 1)).toNat * 256 + (s.readByte s.sp).toNat ∧
    t.main.f = (if q = .AF then s.readByte s.sp else s.main.f) ∧
    KeepsRegs (pairRegs q.pair) s t ∧ t.sp = s.sp + 2 ∧ t.pc = s.pc + 1 ∧
    t = { s with main := t.main, sp := t.sp, pc := t.pc, cycles := t.cycles } ∧
    ∀ a, t.readByte a = s.readByte a

/-- From every state, PUSH of one pair and PUSH of a second, then POP into a third and POP into a fourth different
from it: the third holds the second value pushed, the fourth the first, and sp is back at its start. Rests on
R150, R151, R152. -/
def Obligations.PopReturnsWhatWasPushed : Prop :=
  ∀ (q1 q2 q3 q4 : Qq) (s : State), q4 ≠ q3 → ∃ t1 t2 t3 t4,
    exec (.push_qq q1) s = .next t1 ∧ exec (.push_qq q2) t1 = .next t2 ∧
    exec (.pop_qq q3) t2 = .next t3 ∧ exec (.pop_qq q4) t3 = .next t4 ∧
    t4.pair q3.pair = s.pair q2.pair ∧ t4.pair q4.pair = s.pair q1.pair ∧ t4.sp = s.sp

/-- RLCA and SRL r complete in every state. RLCA: A becomes 2A mod 256 plus its old bit 7, which also goes to C.
SRL r: r becomes r / 2 and C its old bit 0. No flag but C, no other register, no other state and no byte of
memory changes; pc advances by 1, by 2. The encodings are 07, and CB 38 + r. Formalises R160, R161. -/
def Obligations.RotateAndShift : Prop :=
  ∀ s : State,
    (encode .rlca = [0x07] ∧ (∀ r : Reg, encode (.srl_r r) = [0xCB, 0x38 + r.code])) ∧
    (∃ t, exec .rlca s = .next t ∧
      (t.reg .A).toNat = (s.reg .A).toNat * 2 % 256 + (s.reg .A).toNat / 128 ∧
      t.flag .C = (s.reg .A).getLsbD 7 ∧
      KeepsFlags [.C] s t ∧ KeepsRegs [.A] s t ∧ t.pc = s.pc + 1 ∧ OnlyMain s t) ∧
    (∀ r : Reg, ∃ t, exec (.srl_r r) s = .next t ∧
      (t.reg r).toNat = (s.reg r).toNat / 2 ∧
      t.flag .C = (s.reg r).getLsbD 0 ∧
      KeepsFlags [.C] s t ∧ KeepsRegs [r] s t ∧ t.pc = s.pc + 2 ∧ OnlyMain s t)

/-- AND s completes in every state, for every register (A itself included) and for the byte at HL: A becomes A and
s; Z is 1 exactly when it is zero, S is its bit 7, PV is bit 7 of the operand, H is 1, N and C are 0; bits 5
and 3, the other registers, all other state and every byte of memory are unchanged; pc advances by 1. Its
encoding is A0 + s. Formalises R171. -/
def Obligations.LogicalAnd : Prop :=
  ∀ (x : Src) (s : State),
    (encode (.and_s x) = [0xA0 + x.code]) ∧
    ∃ t, exec (.and_s x) s = .next t ∧
    t.reg .A = s.reg .A &&& srcValue s x ∧
    t.flag .Z = decide (t.reg .A = 0) ∧ t.flag .S = (t.reg .A).getLsbD 7 ∧
    t.flag .PV = (srcValue s x).getLsbD 7 ∧
    t.flag .H = true ∧ t.flag .N = false ∧ t.flag .C = false ∧
    KeepsFlags [.S, .Z, .H, .PV, .N, .C] s t ∧ KeepsRegs [.A] s t ∧ t.pc = s.pc + 1 ∧ OnlyMain s t

/-- OR s and XOR s complete in every state, for every register (A itself included, PV then being bit 7 of the old
A) and for the byte at HL: A becomes A or s, A exclusive-or s; Z, S are of the result, PV is bit 7 of the
operand, H, N and C are 0; bits 5 and 3, the other registers, all other state and every byte of memory are
unchanged; pc advances by 1. The encodings are B0 + s, A8 + s. Formalises R172, R173. -/
def Obligations.LogicalOrXor : Prop :=
  ∀ (x : Src) (s : State),
    (encode (.or_s x) = [0xB0 + x.code] ∧ encode (.xor_s x) = [0xA8 + x.code]) ∧
    (∃ t, exec (.or_s x) s = .next t ∧ t.reg .A = s.reg .A ||| srcValue s x ∧
      t.flag .Z = decide (t.reg .A = 0) ∧ t.flag .S = (t.reg .A).getLsbD 7 ∧
      t.flag .PV = (srcValue s x).getLsbD 7 ∧
      t.flag .H = false ∧ t.flag .N = false ∧ t.flag .C = false ∧
      KeepsFlags [.S, .Z, .H, .PV, .N, .C] s t ∧ KeepsRegs [.A] s t ∧ t.pc = s.pc + 1 ∧ OnlyMain s t) ∧
    (∃ t, exec (.xor_s x) s = .next t ∧ t.reg .A = s.reg .A ^^^ srcValue s x ∧
      t.flag .Z = decide (t.reg .A = 0) ∧ t.flag .S = (t.reg .A).getLsbD 7 ∧
      t.flag .PV = (srcValue s x).getLsbD 7 ∧
      t.flag .H = false ∧ t.flag .N = false ∧ t.flag .C = false ∧
      KeepsFlags [.S, .Z, .H, .PV, .N, .C] s t ∧ KeepsRegs [.A] s t ∧ t.pc = s.pc + 1 ∧ OnlyMain s t)

/-- CP r and CP n complete in every state: Z is 1 exactly when A equals the operand, S is bit 7 of A - operand mod
256, PV is bit 7 of the operand; C, H, N, bits 5 and 3, every register, A included, all other state and every
byte of memory are unchanged; pc advances by 1, by 2. The encodings are B8 + r, and FE n. Formalises R174,
R175. -/
def Obligations.CompareLeavesAccumulator : Prop :=
  ∀ s : State,
    ((∀ r : Reg, encode (.cp_r r) = [0xB8 + r.code]) ∧ (∀ n : Byte, encode (.cp_n n) = [0xFE, n])) ∧
    (∀ r : Reg, ∃ t, exec (.cp_r r) s = .next t ∧
      t.flag .Z = decide ((s.reg .A).toNat = (s.reg r).toNat) ∧
      t.flag .S = decide (((s.reg .A).toNat + 256 - (s.reg r).toNat) % 256 ≥ 128) ∧
      t.flag .PV = (s.reg r).getLsbD 7 ∧
      KeepsFlags [.Z, .S, .PV] s t ∧ KeepsRegs [] s t ∧ t.pc = s.pc + 1 ∧ OnlyMain s t) ∧
    (∀ n : Byte, ∃ t, exec (.cp_n n) s = .next t ∧
      t.flag .Z = decide ((s.reg .A).toNat = n.toNat) ∧
      t.flag .S = decide (((s.reg .A).toNat + 256 - n.toNat) % 256 ≥ 128) ∧
      t.flag .PV = n.getLsbD 7 ∧
      KeepsFlags [.Z, .S, .PV] s t ∧ KeepsRegs [] s t ∧ t.pc = s.pc + 2 ∧ OnlyMain s t)

/-- SUB r and SBC A,r complete in every state, A itself as operand included: A becomes A - r mod 256, A - r - C
mod 256; Z and S are of the result, PV is bit 7 of the operand as it was before; C (the borrow is not
recorded, the carry-in is kept), H, N, bits 5 and 3, the other registers, all other state and every byte of
memory are unchanged; pc advances by 1. The encodings are 90 + r, 98 + r. Formalises R176, R177. -/
def Obligations.SubtractRegister : Prop :=
  ∀ (r : Reg) (s : State),
    (encode (.sub_r r) = [0x90 + r.code] ∧ encode (.sbc_A_r r) = [0x98 + r.code]) ∧
    (∃ t, exec (.sub_r r) s = .next t ∧
      (t.reg .A).toNat = ((s.reg .A).toNat + 256 - (s.reg r).toNat) % 256 ∧
      t.flag .Z = decide (t.reg .A = 0) ∧ t.flag .S = (t.reg .A).getLsbD 7 ∧
      t.flag .PV = (s.reg r).getLsbD 7 ∧
      KeepsFlags [.Z, .S, .PV] s t ∧ KeepsRegs [.A] s t ∧ t.pc = s.pc + 1 ∧ OnlyMain s t) ∧
    (∃ t, exec (.sbc_A_r r) s = .next t ∧
      (t.reg .A).toNat = ((s.reg .A).toNat + 512 - (s.reg r).toNat - (s.flag .C).toNat) % 256 ∧
      t.flag .Z = decide (t.reg .A = 0) ∧ t.flag .S = (t.reg .A).getLsbD 7 ∧
      t.flag .PV = (s.reg r).getLsbD 7 ∧
      KeepsFlags [.Z, .S, .PV] s t ∧ KeepsRegs [.A] s t ∧ t.pc = s.pc + 1 ∧ OnlyMain s t)

/-- JP nn completes in every state with pc at the immediate. JP cc,nn completes in every state, for each of the
eight conditions: pc is the immediate where the condition holds and pc + 3 where it does not. Nothing but pc
and the reported cost changes. The encodings are C3, and C2 + 8 cc, then o1 o2. Formalises R191, R192. -/
def Obligations.AbsoluteJumps : Prop :=
  ∀ (o1 o2 : Byte) (s : State),
    (encode (.jp_nn o1 o2) = [0xC3, o1, o2] ∧ (∀ cc : Cond, encode (.jp_cc o1 o2 cc) = [0xC2 + 8 * cc.code, o1, o2])) ∧
    (∃ t, exec (.jp_nn o1 o2) s = .next t ∧ t.pc = s.imm o1 o2 ∧ OnlyPc s t) ∧
    (∀ cc : Cond, ∃ t, exec (.jp_cc o1 o2 cc) s = .next t ∧
      t.pc = (if s.cond cc then s.imm o1 o2 else s.pc + 3) ∧ OnlyPc s t)

/-- CALL nn completes in every state, for every sp: the address pc + 3 is pushed, its high byte at sp - 1 and its
low byte at sp - 2, sp becomes sp - 2 and pc the immediate; every other byte, every register, F and all other
state are unchanged. CALL cc,nn does the same where the condition holds, and where it does not only pc
changes, to pc + 3. The encodings are CD, and C4 + 8 cc, then o1 o2. Formalises R193, R194. -/
def Obligations.Calls : Prop :=
  ∀ (o1 o2 : Byte) (s : State),
    (encode (.call_nn o1 o2) = [0xCD, o1, o2] ∧ (∀ cc : Cond, encode (.call_cc o1 o2 cc) = [0xC4 + 8 * cc.code, o1, o2])) ∧
    (∃ t, exec (.call_nn o1 o2) s = .next t ∧ t.pc = s.imm o1 o2 ∧ t.sp = s.sp - 2 ∧
      (t.readByte (s.sp - 1)).toNat = (s.pc + 3).toNat / 256 ∧
      (t.readByte (s.sp - 2)).toNat = (s.pc + 3).toNat % 256 ∧ OnlyPushed s t) ∧
    (∀ cc : Cond, ∃ t, exec (.call_cc o1 o2 cc) s = .next t ∧
      (s.cond cc = true → t.pc = s.imm o1 o2 ∧ t.sp = s.sp - 2 ∧
        (t.readByte (s.sp - 1)).toNat = (s.pc + 3).toNat / 256 ∧
        (t.readByte (s.sp - 2)).toNat = (s.pc + 3).toNat % 256 ∧ OnlyPushed s t) ∧
      (s.cond cc = false → t.pc = s.pc + 3 ∧ OnlyPc s t))

/-- RET completes in every state, for every sp: pc becomes the byte at sp + 1 times 256 plus the byte at sp, and
sp becomes sp + 2; nothing else changes. RET cc does the same where the condition holds, and where it does not
only pc changes, to pc + 1. The encodings are C9, and C0 + 8 cc. Formalises R195, R196. -/
def Obligations.Returns : Prop :=
  ∀ s : State,
    (encode .ret = [0xC9] ∧ (∀ cc : Cond, encode (.ret_cc cc) = [0xC0 + 8 * cc.code])) ∧
    (∃ t, exec .ret s = .next t ∧
      t.pc.toNat = (s.readByte (s.sp + 1)).toNat * 256 + (s.readByte s.sp).toNat ∧ t.sp = s.sp + 2 ∧
      t = { s with sp := t.sp, pc := t.pc, cycles := t.cycles } ∧ ∀ a, t.readByte a = s.readByte a) ∧
    (∀ cc : Cond, ∃ t, exec (.ret_cc cc) s = .next t ∧
      (s.cond cc = true →
        t.pc.toNat = (s.readByte (s.sp + 1)).toNat * 256 + (s.readByte s.sp).toNat ∧ t.sp = s.sp + 2 ∧
        t = { s with sp := t.sp, pc := t.pc, cycles := t.cycles } ∧ ∀ a, t.readByte a = s.readByte a) ∧
      (s.cond cc = false → t.pc = s.pc + 1 ∧ OnlyPc s t))

/-- From every state, CALL nn and then RET: pc is the address after the three-byte CALL, sp is back, and outside
memory, pc and the reported cost the state is the one before the call: every register of both banks, every
flag, IX, IY, the interrupt state and the ports. The only bytes of memory that may have changed are the two
below sp. Rests on R26, R28, R150, R193, R195. -/
def Obligations.ReturnComesBackFromCall : Prop :=
  ∀ (o1 o2 : Byte) (s : State), ∃ t u, exec (.call_nn o1 o2) s = .next t ∧ exec .ret t = .next u ∧
    u = { s with mem := u.mem, pc := s.pc + 3, cycles := u.cycles } ∧
    ∀ a, a ≠ s.sp - 1 → a ≠ s.sp - 2 → u.readByte a = s.readByte a

/-- JR e completes in every state: pc is pc + 2 + e mod 65536 with e the signed operand byte, -128 to 127. JR
cc',e does the same where its condition holds and goes on at pc + 2 where it does not. Nothing but pc and the
reported cost changes. The encodings are 18, and 20 + 8 cc, then e. Formalises R197, R198. -/
def Obligations.RelativeJumps : Prop :=
  ∀ (o1 : Byte) (s : State),
    (encode (.jr_e o1) = [0x18, o1] ∧ (∀ cc : RelCond, encode (.jr_cc o1 cc) = [0x20 + 8 * cc.code, o1])) ∧
    (∃ t, exec (.jr_e o1) s = .next t ∧
      (t.pc.toNat : Int) = ((s.pc.toNat : Int) + 2 + o1.toInt) % 65536 ∧ OnlyPc s t) ∧
    (∀ cc : RelCond, ∃ t, exec (.jr_cc o1 cc) s = .next t ∧
      (s.cond cc.cond = true → (t.pc.toNat : Int) = ((s.pc.toNat : Int) + 2 + o1.toInt) % 65536) ∧
      (s.cond cc.cond = false → t.pc = s.pc + 2) ∧ OnlyPc s t)

/-- DJNZ completes in every state: B becomes B - 1 mod 256; where it was 1, pc goes on at pc + 2, and otherwise (0
included) to pc + 2 + e mod 65536. F, the other registers, all other state and every byte of memory are
unchanged. Its encoding is 10 then e. Formalises R199. -/
def Obligations.DecrementBAndJump : Prop :=
  ∀ (o1 : Byte) (s : State),
    (encode (.djnz_e o1) = [0x10, o1]) ∧
    ∃ t, exec (.djnz_e o1) s = .next t ∧
    (t.reg .B).toNat = ((s.reg .B).toNat + 255) % 256 ∧
    ((s.reg .B).toNat = 1 → t.pc = s.pc + 2) ∧
    ((s.reg .B).toNat ≠ 1 → (t.pc.toNat : Int) = ((s.pc.toNat : Int) + 2 + o1.toInt) % 65536) ∧
    t.main.f = s.main.f ∧ KeepsRegs [.B] s t ∧ OnlyMain s t

/-- Each completes in every state. EX AF,AF' swaps A with A' and all eight bits of F with F'; EXX swaps the six
registers B C D E H L with their shadows and leaves A, F, A', F' alone; EX DE,HL swaps D with H and E with L.
Nothing else changes but pc, by 1, and the reported cost. The encodings are 08, D9, EB. Formalises R210, R211,
R212. -/
def Obligations.Exchanges : Prop :=
  ∀ s : State,
    (encode .ex_AF = [0x08] ∧ encode .exx = [0xD9] ∧ encode .ex_DE_HL = [0xEB]) ∧
    (∃ t, exec .ex_AF s = .next t ∧
      t.main = { s.main with a := s.shadow.a, f := s.shadow.f } ∧
      t.shadow = { s.shadow with a := s.main.a, f := s.main.f } ∧ t.pc = s.pc + 1 ∧
      t = { s with main := t.main, shadow := t.shadow, pc := t.pc, cycles := t.cycles } ∧
      ∀ a, t.readByte a = s.readByte a) ∧
    (∃ t, exec .exx s = .next t ∧
      t.main = ⟨s.main.a, s.main.f, s.shadow.b, s.shadow.c, s.shadow.d, s.shadow.e, s.shadow.h, s.shadow.l⟩ ∧
      t.shadow = ⟨s.shadow.a, s.shadow.f, s.main.b, s.main.c, s.main.d, s.main.e, s.main.h, s.main.l⟩ ∧
      t.pc = s.pc + 1 ∧
      t = { s with main := t.main, shadow := t.shadow, pc := t.pc, cycles := t.cycles } ∧
      ∀ a, t.readByte a = s.readByte a) ∧
    (∃ t, exec .ex_DE_HL s = .next t ∧
      t.pair .DE = s.pair .HL ∧ t.pair .HL = s.pair .DE ∧ t.main.f = s.main.f ∧
      KeepsRegs [.D, .E, .H, .L] s t ∧ t.pc = s.pc + 1 ∧ OnlyMain s t)

/-- LDIR completes in every state, in one step. With n = BC, or 65536 where BC is 0: memory is as after n bytes
copied one at a time in ascending order from HL on to DE on, each read after all earlier writes; BC is 0, HL
and DE are advanced by n mod 65536; the reported cost is 16 + 21 * (n - 1); A, F and all other state are
unchanged; pc advances by 2. Its encoding is ED B0. Formalises R220. -/
def Obligations.BlockCopy : Prop :=
  ∀ s : State,
    (encode .ldir = [0xED, 0xB0]) ∧
    ∃ t, exec .ldir s = .next t ∧
    (∀ a, t.readByte a = copyBytes s.readByte (s.pair .HL) (s.pair .DE) (blockCount (s.pair .BC)) a) ∧
    t.pair .BC = 0 ∧
    t.pair .HL = s.pair .HL + BitVec.ofNat 16 (blockCount (s.pair .BC)) ∧
    t.pair .DE = s.pair .DE + BitVec.ofNat 16 (blockCount (s.pair .BC)) ∧
    t.cycles = 16 + 21 * (blockCount (s.pair .BC) - 1) ∧
    t.reg .A = s.reg .A ∧ t.main.f = s.main.f ∧ t.pc = s.pc + 2 ∧
    t = { s with main := t.main, mem := t.mem, pc := t.pc, cycles := t.cycles }

/-- Where no byte of the n-byte range at DE is a byte of the n-byte range at HL (n = BC not 0), after LDIR byte k
of the destination is byte k of the source as it was, for every k below n, the source is unchanged, and so is
every byte outside the destination. Rests on R220. -/
def Obligations.BlockCopyOfDisjointRanges : Prop :=
  ∀ s : State, s.pair .BC ≠ 0 →
    (∀ j k, j < (s.pair .BC).toNat → k < (s.pair .BC).toNat →
      s.pair .DE + BitVec.ofNat 16 j ≠ s.pair .HL + BitVec.ofNat 16 k) →
    ∃ t, exec .ldir s = .next t ∧
      (∀ k, k < (s.pair .BC).toNat →
        t.readByte (s.pair .DE + BitVec.ofNat 16 k) = s.readByte (s.pair .HL + BitVec.ofNat 16 k) ∧
        t.readByte (s.pair .HL + BitVec.ofNat 16 k) = s.readByte (s.pair .HL + BitVec.ofNat 16 k)) ∧
      (∀ a, (∀ k, k < (s.pair .BC).toNat → a ≠ s.pair .DE + BitVec.ofNat 16 k) →
        t.readByte a = s.readByte a)

/-- OUT (C),r completes in every state: the pair (BC, r) is added at the end of the port history, all 16 bits of
BC being the port; no other state of the core changes but pc, by 2, and the reported cost. Its encoding is ED
41 + 8 r. Formalises R222. -/
def Obligations.PortWriteGoesToHistory : Prop :=
  ∀ (r : Reg) (s : State),
    (encode (.out_r r) = [0xED, 0x41 + 8 * r.code]) ∧
    ∃ t, exec (.out_r r) s = .next t ∧
    t.ports = s.ports ++ [.write (s.pair .BC) (s.reg r)] ∧ t.pc = s.pc + 2 ∧
    t = { s with ports := t.ports, pc := t.pc, cycles := t.cycles } ∧ ∀ a, t.readByte a = s.readByte a

/-- IN A,(C) completes in every state: A becomes the environment's answer, which is the next queued answer or,
where none is queued, a draw of the port oracle at this draw number, port history and port (model's choice of
how the free answer is drawn: log 3); the read is added at the end of the port history; F, the other registers
and all other state of the core are unchanged, and every byte of memory; pc advances by 2. Its encoding is ED
78. Rests on R58, R223. -/
def Obligations.PortReadGoesToA : Prop :=
  ∀ s : State,
    (encode .in_A_iC = [0xED, 0x78]) ∧
    ∃ t, exec .in_A_iC s = .next t ∧
    (s.answers = [] → t.reg .A = Config.portRead s.draws s.ports (s.pair .BC)) ∧
    (∀ v rest, s.answers = v :: rest → t.reg .A = v ∧ t.answers = rest) ∧
    t.ports = s.ports ++ [.read (s.pair .BC) (t.reg .A)] ∧ t.draws = s.draws + 1 ∧
    t.main.f = s.main.f ∧ KeepsRegs [.A] s t ∧ t.pc = s.pc + 2 ∧
    t = { s with main := t.main, ports := t.ports, answers := t.answers, draws := t.draws, pc := t.pc, cycles := t.cycles } ∧
    ∀ a, t.readByte a = s.readByte a

/-- DI and EI complete in every state with both flip-flops false, true; IM 0, IM 1 and IM 2 complete in every
state with im at 0, 1, 2. Nothing else changes but pc, by 1, 1, 2, and the reported cost; every byte of memory
reads as before. The encodings are F3, FB, ED 46, ED 56, ED 5E. Formalises R225, R226, R227. -/
def Obligations.InterruptControl : Prop :=
  ∀ s : State,
    (encode .di = [0xF3] ∧ encode .ei = [0xFB] ∧
    encode (.im_n .im0) = [0xED, 0x46] ∧ encode (.im_n .im1) = [0xED, 0x56] ∧ encode (.im_n .im2) = [0xED, 0x5E]) ∧
    (∃ t, exec .di s = .next t ∧ t.pc = s.pc + 1 ∧
      t = { s with iff1 := false, iff2 := false, pc := t.pc, cycles := t.cycles } ∧ ∀ a, t.readByte a = s.readByte a) ∧
    (∃ t, exec .ei s = .next t ∧ t.pc = s.pc + 1 ∧
      t = { s with iff1 := true, iff2 := true, pc := t.pc, cycles := t.cycles } ∧ ∀ a, t.readByte a = s.readByte a) ∧
    (∀ m : IntMode, ∃ t, exec (.im_n m) s = .next t ∧ t.pc = s.pc + 2 ∧
      t = { s with im := m, pc := t.pc, cycles := t.cycles } ∧ ∀ a, t.readByte a = s.readByte a)

/-- LD IX,nn completes in every state: IX becomes the immediate (o1 * 256 + o2 with high_first, o2 * 256 + o1 with
low_first); every register, F, all other state and every byte of memory are unchanged; pc advances by 4. Its
encoding is DD 21 o1 o2. Formalises R240. -/
def Obligations.IndexLoadImmediate : Prop :=
  ∀ (o1 o2 : Byte) (s : State),
    (encode (.ld_IX_nn o1 o2) = [0xDD, 0x21, o1, o2]) ∧
    ∃ t, exec (.ld_IX_nn o1 o2) s = .next t ∧
    t.pair .IX = s.imm o1 o2 ∧
    (s.cfg.imm16Order = .highFirst → t.ixh = o1 ∧ t.ixl = o2) ∧
    (s.cfg.imm16Order = .lowFirst → t.ixh = o2 ∧ t.ixl = o1) ∧
    t.main = s.main ∧ t.pc = s.pc + 4 ∧ OnlyMainAndIX s t

/-- Each completes in every state. INC IX and DEC IX: IX becomes IX + 1, IX - 1 mod 65536 and N becomes 0, 1, no
other flag. ADD IX,pp (IX itself as source included): IX becomes the sum mod 65536, C is 1 exactly when the
sum exceeds 0xFFFF, H exactly when bit 3 of both operands is 1, N is 1, no other flag. Every general register,
bits 5 and 3 of F, all other state and every byte of memory are unchanged; pc advances by 2. The encodings are
DD 23, DD 2B, DD 09 + 16 pp. Formalises R241, R242, R243. -/
def Obligations.IndexArithmetic : Prop :=
  ∀ s : State,
    (encode .inc_IX = [0xDD, 0x23] ∧ encode .dec_IX = [0xDD, 0x2B] ∧
    (∀ p : Pp, encode (.add_IX_pp p) = [0xDD, 0x09 + 16 * p.code])) ∧
    (∃ t, exec .inc_IX s = .next t ∧ (t.pair .IX).toNat = ((s.pair .IX).toNat + 1) % 65536 ∧
      t.flag .N = false ∧ KeepsFlags [.N] s t ∧ KeepsRegs [] s t ∧ t.pc = s.pc + 2 ∧ OnlyMainAndIX s t) ∧
    (∃ t, exec .dec_IX s = .next t ∧ (t.pair .IX).toNat = ((s.pair .IX).toNat + 65535) % 65536 ∧
      t.flag .N = true ∧ KeepsFlags [.N] s t ∧ KeepsRegs [] s t ∧ t.pc = s.pc + 2 ∧ OnlyMainAndIX s t) ∧
    (∀ p : Pp, ∃ t, exec (.add_IX_pp p) s = .next t ∧
      (t.pair .IX).toNat = ((s.pair .IX).toNat + (s.pair p.pair).toNat) % 65536 ∧
      t.flag .C = decide ((s.pair .IX).toNat + (s.pair p.pair).toNat > 0xFFFF) ∧
      t.flag .H = ((s.pair .IX).getLsbD 3 && (s.pair p.pair).getLsbD 3) ∧ t.flag .N = true ∧
      KeepsFlags [.C, .H, .N] s t ∧ KeepsRegs [] s t ∧ t.pc = s.pc + 2 ∧ OnlyMainAndIX s t)

/-- PUSH IX completes in every state and for every sp: IXH at sp - 1, IXL at sp - 2, sp - 2, nothing else changed.
POP IX completes in every state and for every sp: IXL is the byte at sp, IXH the byte at sp + 1, sp becomes sp
+ 2, nothing else changed. pc advances by 2. The encodings are DD E5, DD E1. Formalises R244, R245. -/
def Obligations.IndexStack : Prop :=
  ∀ s : State,
    (encode .push_IX = [0xDD, 0xE5] ∧ encode .pop_IX = [0xDD, 0xE1]) ∧
    (∃ t, exec .push_IX s = .next t ∧ t.readByte (s.sp - 1) = s.ixh ∧ t.readByte (s.sp - 2) = s.ixl ∧
      t.sp = s.sp - 2 ∧ t.pc = s.pc + 2 ∧ OnlyPushed s t) ∧
    (∃ t, exec .pop_IX s = .next t ∧ t.ixl = s.readByte s.sp ∧ t.ixh = s.readByte (s.sp + 1) ∧
      t.sp = s.sp + 2 ∧ t.pc = s.pc + 2 ∧
      t = { s with ixh := t.ixh, ixl := t.ixl, sp := t.sp, pc := t.pc, cycles := t.cycles } ∧
      ∀ a, t.readByte a = s.readByte a)

/-- LD (nn),IX completes in every state: only the byte at nn changes, to IXL. LD IX,(nn) completes in every state:
IXL becomes the byte at nn and IXH keeps its value; every other register, F, all other state and every byte of
memory are unchanged. pc advances by 4. The encodings are DD 22, DD 2A then o1 o2. Formalises R246, R247. -/
def Obligations.IndexMemoryMovesLowHalfOnly : Prop :=
  ∀ (o1 o2 : Byte) (s : State),
    (encode (.ld_inn_IX o1 o2) = [0xDD, 0x22, o1, o2] ∧ encode (.ld_IX_inn o1 o2) = [0xDD, 0x2A, o1, o2]) ∧
    (∃ t, exec (.ld_inn_IX o1 o2) s = .next t ∧ t.readByte (s.imm o1 o2) = s.ixl ∧
      t.pc = s.pc + 4 ∧ OnlyByteAt (s.imm o1 o2) s t) ∧
    (∃ t, exec (.ld_IX_inn o1 o2) s = .next t ∧ t.ixl = s.readByte (s.imm o1 o2) ∧ t.pc = s.pc + 4 ∧
      t = { s with ixl := t.ixl, pc := t.pc, cycles := t.cycles } ∧ ∀ a, t.readByte a = s.readByte a)

/-- For every instruction, state and address: where storesTo, which computes the stored addresses with the
meanings' own address expressions, says the instruction does not store to the address, the byte there reads as
before. Every form of the catalog that is not listed in it stores nowhere. Rests on R26, R50, R52, R53. -/
def Obligations.MemoryChangesOnlyWhereStored : Prop :=
  ∀ (i : Instr) (s t : State) (a : Word), exec i s = .next t → storesTo i s a = false →
    t.readByte a = s.readByte a

/-- After every instruction sp is unchanged, two less or two more, mod 65536; and it is unchanged by every
instruction that is not a PUSH, POP, CALL or RET form. Rests on R29, R30, R150. -/
def Obligations.StackPointerMovesByTwo : Prop :=
  ∀ (i : Instr) (s t : State), exec i s = .next t →
    (t.sp = s.sp ∨ t.sp = s.sp - 2 ∨ t.sp = s.sp + 2) ∧
    (t.sp ≠ s.sp →
      (∃ q, i = .push_qq q ∨ i = .pop_qq q) ∨ i = .push_IX ∨ i = .pop_IX ∨ i = .ret ∨
      (∃ o1 o2, i = .call_nn o1 o2 ∨ ∃ cc, i = .call_cc o1 o2 cc) ∨ ∃ cc, i = .ret_cc cc)

/-- For every instruction that is not one of the control-transfer forms and every state, pc ends at pc plus the
length of the instruction's encoding, mod 65536. Rests on R28, R84, R200. -/
def Obligations.PcAdvancesByLength : Prop :=
  ∀ (i : Instr) (s t : State), isTransfer i = false → exec i s = .next t →
    t.pc = s.pc + BitVec.ofNat 16 (encode i).length

/-- Bits 5 and 3 of F are unchanged by every instruction but POP AF and EX AF,AF'; the shadow bank is unchanged by
every instruction but EX AF,AF' and EXX, and A' and F' by EXX too. Rests on R24, R25, R211. -/
def Obligations.WhoWritesFlagStorageAndShadows : Prop :=
  ∀ (i : Instr) (s t : State), exec i s = .next t →
    (i ≠ .pop_AF → i ≠ .ex_AF →
      t.main.f.getLsbD 5 = s.main.f.getLsbD 5 ∧ t.main.f.getLsbD 3 = s.main.f.getLsbD 3) ∧
    (i ≠ .ex_AF → t.shadow.a = s.shadow.a ∧ t.shadow.f = s.shadow.f ∧ (i ≠ .exx → t.shadow = s.shadow))

/-- For every instruction and state, executed again with any other values in iff1, iff2, im, IY and the reported
cost: both runs complete; outside those fields they end in the same state; they report the same cost; IY keeps
the value it had in each; and each of iff1, iff2, im either ends at the same value in both or keeps in each
run the value it had. For IN A,(C) with no answer queued, that both runs read the same byte is the choice of
the model (DESIGN CHOICE, log 3): its oracle gives equal answers to equal draw numbers, histories and ports,
while R58 lets the answer depend on things outside the core. Rests on R32, R33, R34, R58, R300. -/
def Obligations.UnreadStateInfluencesNothing : Prop :=
  ∀ (i : Instr) (s : State) (f1 f2 : Bool) (m : IntMode) (yh yl : Byte) (n : Nat), ∃ t t',
    exec i s = .next t ∧ exec i (s.withUnread f1 f2 m yh yl n) = .next t' ∧
    t' = t.withUnread t'.iff1 t'.iff2 t'.im t'.iyh t'.iyl t'.cycles ∧
    t'.cycles = t.cycles ∧
    t.iyh = s.iyh ∧ t.iyl = s.iyl ∧ t'.iyh = yh ∧ t'.iyl = yl ∧
    (t'.iff1 = t.iff1 ∨ t.iff1 = s.iff1 ∧ t'.iff1 = f1) ∧
    (t'.iff2 = t.iff2 ∨ t.iff2 = s.iff2 ∧ t'.iff2 = f2) ∧
    (t'.im = t.im ∨ t.im = s.im ∧ t'.im = m)

/-- For every instruction and state the port history after it begins with the history before it, at most one call
longer; where the instruction is neither OUT (C),r nor IN A,(C), the history and the environment's answers are
unchanged. No instruction changes the configuration or the fatal-stop record. Rests on R26, R57, R59. -/
def Obligations.PortsReachedByTwoFormsOnly : Prop :=
  ∀ (i : Instr) (s t : State), exec i s = .next t →
    (∃ new, t.ports = s.ports ++ new ∧ new.length ≤ 1) ∧
    ((∀ r, i ≠ .out_r r) → i ≠ .in_A_iC →
      t.ports = s.ports ∧ t.answers = s.answers ∧ t.draws = s.draws) ∧
    t.cfg = s.cfg ∧ t.stop = s.stop

/-- After a byte is stored, the byte fetched k places after pc is that byte where the address is the stored one,
and otherwise the byte fetched before. Rests on R63, R65. -/
def Obligations.FetchSeesEveryStore : Prop :=
  ∀ (s : State) (a : Word) (v : Byte) (k : Nat),
    (s.writeByte a v).fetchByte k =
      if s.pc + BitVec.ofNat 16 k = a then v else s.fetchByte k

/-- A ROM buffer of 16384 bytes is accepted: byte i then stands at address i, and every address from 0x4000 on
reads as before. One of 32768 bytes is accepted: byte i of its first half stands at i, byte j of its second
half at 0xC000 + j, and addresses from 0x4000 to 0xBFFF read as before. Nothing but memory changes. Any other
length is refused as BadRomSize. Formalises R62. -/
def Obligations.RomPlacement : Prop :=
  ∀ (s : State) (rom : List Byte),
    (rom.length = 16384 → ∃ t, s.placeRom rom = .next t ∧ t = { s with mem := t.mem } ∧
      (∀ i, i < 16384 → t.readByte (BitVec.ofNat 16 i) = rom.getD i 0) ∧
      ∀ a : Word, 16384 ≤ a.toNat → t.readByte a = s.readByte a) ∧
    (rom.length = 32768 → ∃ t, s.placeRom rom = .next t ∧ t = { s with mem := t.mem } ∧
      (∀ i, i < 16384 → t.readByte (BitVec.ofNat 16 i) = rom.getD i 0) ∧
      (∀ j, j < 16384 → t.readByte (0xC000 + BitVec.ofNat 16 j) = rom.getD (16384 + j) 0) ∧
      ∀ a : Word, 16384 ≤ a.toNat → a.toNat < 0xC000 → t.readByte a = s.readByte a) ∧
    (rom.length ≠ 16384 → rom.length ≠ 32768 → s.placeRom rom = .refused (.badRomSize rom.length))

/-- run(start) sets pc to the start address and changes nothing else, so that the first step of a run fetches
there; every byte of memory reads as before. Rests on R292. -/
def Obligations.RunSetsOnlyPc : Prop :=
  ∀ (s : State) (start : Word),
    s.run start = { s with pc := start } ∧ (s.run start).fetchByte 0 = s.readByte start ∧
    ∀ a, (s.run start).readByte a = s.readByte a

/-- For every form but LDIR, in every state, the cost reported is the entry of that form in the cycle table the
machine was built with; a conditional form reports its taken entry where it is taken and its not-taken entry
where it is not. Which cell of the rule's table a form reads is the model's reading, and the default numbers
are general knowledge (log 7). Rests on R300, R301. -/
def Obligations.ReportedCycleCosts : Prop :=
  let costs := fun (i : Instr) (f : CycleTable → Nat) =>
      ∀ s : State, ∃ t, exec i s = .next t ∧ t.cycles = f s.cfg.cycles
    let costsBranch := fun (cc : Cond) (i : Instr) (f : CycleTable → BranchCost) =>
      ∀ s : State, ∃ t, exec i s = .next t ∧
        t.cycles = if s.cond cc then (f s.cfg.cycles).taken else (f s.cfg.cycles).notTaken
    (∀ r, costs (.inc_r r) (·.incR) ∧ costs (.dec_r r) (·.decR) ∧ costs (.srl_r r) (·.srl) ∧
      costs (.cp_r r) (·.aluR) ∧ costs (.sub_r r) (·.aluR) ∧ costs (.sbc_A_r r) (·.aluR) ∧
      costs (.and_s (.reg r)) (·.aluR) ∧ costs (.or_s (.reg r)) (·.aluR) ∧ costs (.xor_s (.reg r)) (·.aluR) ∧
      costs (.ld_r_iHL r) (·.ldRiHL) ∧ costs (.ld_iHL_r r) (·.ldiHLR) ∧ costs (.out_r r) (·.portIO) ∧
      (∀ r', costs (.ld_r_r r r') (·.ldRR)) ∧ ∀ n, costs (.ld_r_n n r) (·.ldRN)) ∧
    (∀ p, costs (.inc_rr p) (·.incRR) ∧ costs (.dec_rr p) (·.decRR) ∧ costs (.add_HL_rr p) (·.addHL) ∧
      ∀ o1 o2, costs (.ld_rr_nn o1 o2 p) (·.ldRRnn)) ∧
    (∀ q, costs (.push_qq q) (·.push) ∧ costs (.pop_qq q) (·.pop)) ∧
    (∀ p, costs (.ld_A_irr p) (·.ldAiRR) ∧ costs (.ld_irr_A p) (·.ldiRRA)) ∧
    (∀ o1 o2, costs (.ld_inn_A o1 o2) (·.ldinnA) ∧ costs (.ld_inn_HL o1 o2) (·.ldinnHL) ∧
      costs (.ld_HL_inn o1 o2) (·.ldHLinn) ∧ costs (.jp_nn o1 o2) (·.jp) ∧ costs (.call_nn o1 o2) (·.call) ∧
      costs (.ld_IX_nn o1 o2) (·.ldIXnn) ∧ costs (.ld_inn_IX o1 o2) (·.ldIXmem) ∧ costs (.ld_IX_inn o1 o2) (·.ldIXmem)) ∧
    (∀ o1, costs (.cp_n o1) (·.cpN) ∧ costs (.jr_e o1) (·.jr)) ∧
    costs .rlca (·.rlca) ∧ costs (.and_s .iHL) (·.aluiHL) ∧ costs (.or_s .iHL) (·.aluiHL) ∧ costs (.xor_s .iHL) (·.aluiHL) ∧
    costs .ret (·.ret) ∧ costs .ex_AF (·.exchange) ∧ costs .exx (·.exchange) ∧ costs .ex_DE_HL (·.exchange) ∧
    costs .in_A_iC (·.portIO) ∧ costs .di (·.diEi) ∧ costs .ei (·.diEi) ∧ (∀ m, costs (.im_n m) (·.im)) ∧
    costs .inc_IX (·.incDecIX) ∧ costs .dec_IX (·.incDecIX) ∧ (∀ p, costs (.add_IX_pp p) (·.addIX)) ∧
    costs .push_IX (·.pushIX) ∧ costs .pop_IX (·.popIX) ∧
    (∀ cc o1 o2, costsBranch cc (.jp_cc o1 o2 cc) (·.jpCc) ∧ costsBranch cc (.call_cc o1 o2 cc) (·.callCc)) ∧
    (∀ cc, costsBranch cc (.ret_cc cc) (·.retCc)) ∧
    (∀ cc o1, costsBranch (RelCond.cond cc) (.jr_cc o1 cc) (·.jrCc)) ∧
    (∀ (s : State) (o1 : Byte), ∃ t, exec (.djnz_e o1) s = .next t ∧
      t.cycles = if s.reg .B = 1 then s.cfg.cycles.djnz.notTaken else s.cfg.cycles.djnz.taken)
end

