-- ==== Sys2Proof/Laws/Decode.lean ====
section
/-! SUPPORT. The catalog against the field patterns, and the small lemmas the round trip rests on. -/

namespace Sys2Proof

set_option maxRecDepth 20000 in
/-- The rows of rules R91 to R94 and the field patterns of rule R89 give every one of the 4 x 256 pairs the same arity, and agree on
which are unmapped (`30_encoding.md` rule R95). -/
theorem catalog_arity_eq_declaredArity :
    ∀ ns, ∀ op : Fin 256, (catalog ns (BitVec.ofFin op)).map Shape.arity = declaredArity ns (BitVec.ofFin op) := by
  intro ns
  cases ns <;> decide

set_option maxRecDepth 20000 in
/-- No two rows of a namespace have the same opcode: "one object per opcode" (`30_encoding.md` rule R90). -/
theorem rowsOf_nodup : ∀ ns, ((rowsOf ns).map (·.op)).Nodup := by
  intro ns
  cases ns <;> decide

/-- A raw instruction with its declared number of operand bytes is well formed. -/
theorem Raw.wf_of {ns : Namespace} {op : Byte} {l : List Byte} (h : declaredArity ns op = some l.length) :
    Raw.wf ⟨ns, op, l⟩ = true := by
  simp [Raw.wf, Raw.mapped, Raw.shapeOk, h]

/-- Dispatch, where the catalog has a row. -/
theorem dispatch_of_catalog {ns : Namespace} {op : Byte} {shape : Shape} (h : catalog ns op = some shape)
    (o1 o2 : Byte) : dispatch ns op o1 o2 = .ok (shape.fill o1 o2) := by simp [dispatch, h]

/-- Dispatch, where it has none: the rejection names the namespace and the byte (`60_exceptions.md` rule R261). -/
theorem dispatch_unmapped {ns : Namespace} {op : Byte} (h : catalog ns op = none) (o1 o2 : Byte) :
    dispatch ns op o1 o2 = .error ⟨ns, op⟩ := by simp [dispatch, h]

/-- A prefix byte selects the namespace of the byte after it (`30_encoding.md` rules R81, R82). -/
theorem decodeWindow_prefixed {b0 : Byte} {ns : Namespace} (h : prefixNamespace b0 = some ns) (b1 b2 b3 : Byte) :
    decodeWindow b0 b1 b2 b3 = dispatch ns b1 b2 b3 := by simp [decodeWindow, h]

/-- Any other byte is an opcode of the basic namespace. -/
theorem decodeWindow_basic {b0 : Byte} (h : prefixNamespace b0 = none) (b1 b2 b3 : Byte) :
    decodeWindow b0 b1 b2 b3 = dispatch .basic b0 b1 b2 := by simp [decodeWindow, h]

/-- The bytes that select a namespace, and no other byte, are prefixes (`30_encoding.md` rule R82). -/
theorem prefixNamespace_eq_some {b : Byte} {ns : Namespace} (h : prefixNamespace b = some ns) :
    ns.prefixBytes = [b] := by
  unfold prefixNamespace at h
  split at h
  · rename_i hb; cases h; rw [hb]; rfl
  split at h
  · rename_i hb; cases h; rw [hb]; rfl
  split at h
  · rename_i hb; cases h; rw [hb]; rfl
  · cases h

/-! ### Each row of the catalog, and the encoding of the instruction it makes -/

/-- A row agrees with the encoder: prefix, opcode, then as many operand bytes as its shape takes (`30_encoding.md` rule R80). -/
def Row.Encodes (ns : Namespace) (r : Row) : Prop :=
  ∀ o1 o2, encode (r.shape.fill o1 o2) = ns.prefixBytes ++ r.op :: [o1, o2].take r.shape.arity

theorem Row.forall_cons {p : Row → Prop} {r : Row} {l : List Row} (h : p r) (hl : ∀ x ∈ l, p x) :
    ∀ x ∈ r :: l, p x := by simpa using ⟨h, hl⟩

theorem basicRows00_encode : ∀ r ∈ basicRows00, Row.Encodes .basic r := by
  unfold basicRows00
  repeat refine Row.forall_cons (fun _ _ => rfl) ?_
  nofun

theorem basicRows40_encode : ∀ r ∈ basicRows40, Row.Encodes .basic r := by
  unfold basicRows40
  repeat refine Row.forall_cons (fun _ _ => rfl) ?_
  nofun

theorem basicRows60_encode : ∀ r ∈ basicRows60, Row.Encodes .basic r := by
  unfold basicRows60
  repeat refine Row.forall_cons (fun _ _ => rfl) ?_
  nofun

theorem basicRows80_encode : ∀ r ∈ basicRows80, Row.Encodes .basic r := by
  unfold basicRows80
  repeat refine Row.forall_cons (fun _ _ => rfl) ?_
  nofun

theorem basicRowsC0_encode : ∀ r ∈ basicRowsC0, Row.Encodes .basic r := by
  unfold basicRowsC0
  repeat refine Row.forall_cons (fun _ _ => rfl) ?_
  nofun

theorem extendedRows_encode : ∀ r ∈ extendedRows, Row.Encodes .extended r := by
  unfold extendedRows
  repeat refine Row.forall_cons (fun _ _ => rfl) ?_
  nofun

theorem bitRows_encode : ∀ r ∈ bitRows, Row.Encodes .bit r := by
  unfold bitRows
  repeat refine Row.forall_cons (fun _ _ => rfl) ?_
  nofun

theorem indexRows_encode : ∀ r ∈ indexRows, Row.Encodes .index r := by
  unfold indexRows
  repeat refine Row.forall_cons (fun _ _ => rfl) ?_
  nofun

/-- The rows agree with the encoder. -/
theorem rowsOf_encode (ns : Namespace) : ∀ r ∈ rowsOf ns, Row.Encodes ns r := by
  intro r hr
  cases ns with
  | basic =>
    simp only [rowsOf, List.mem_append] at hr
    rcases hr with (((h | h) | h) | h) | h
    exacts [basicRows00_encode r h, basicRows40_encode r h, basicRows60_encode r h, basicRows80_encode r h,
      basicRowsC0_encode r h]
  | extended => exact extendedRows_encode r hr
  | bit => exact bitRows_encode r hr
  | index => exact indexRows_encode r hr

/-- What Dispatch finds is a row. -/
theorem catalog_row {ns : Namespace} {op : Byte} {shape : Shape} (h : catalog ns op = some shape) :
    ∃ r ∈ rowsOf ns, r.op = op ∧ r.shape = shape := by
  simp only [catalog, Option.map_eq_some_iff] at h
  obtain ⟨r, h1, h2⟩ := h
  exact ⟨r, List.mem_of_find?_eq_some h1, by simpa using List.find?_some h1, h2⟩

end Sys2Proof
end

