-- ==== Sys2Proof/Laws/Exec.lean ====
section
/-! SUPPORT. The catalog by its shapes: a case analysis over the rows of one shape (the selectors of Syntax.lean) and the other
rows, and for each shape the one shared operation its rows run. A statement about every instruction goes through
these cases and not through the 225 constructors. -/

namespace Sys2Proof

/-- To prove something of every instruction, prove it of every shape: `induction i using Instr.byShape`. -/
theorem Instr.byShape {P : Instr → Prop}
    (ld_rr_nn : ∀ (o1 : Byte) (o2 : Byte) (p : Rr), P (Instr.ld_rr_nn o1 o2 p))
    (ld_irr_A : ∀ (p : PtrPair), P (Instr.ld_irr_A p))
    (inc_rr : ∀ (p : Rr), P (Instr.inc_rr p))
    (inc_r : ∀ (r : Reg), P (Instr.inc_r r))
    (dec_r : ∀ (r : Reg), P (Instr.dec_r r))
    (ld_r_n : ∀ (o1 : Byte) (r : Reg), P (Instr.ld_r_n o1 r))
    (rlca : P Instr.rlca)
    (ex_AF : P Instr.ex_AF)
    (add_HL_rr : ∀ (p : Rr), P (Instr.add_HL_rr p))
    (ld_A_irr : ∀ (p : PtrPair), P (Instr.ld_A_irr p))
    (dec_rr : ∀ (p : Rr), P (Instr.dec_rr p))
    (djnz_e : ∀ (o1 : Byte), P (Instr.djnz_e o1))
    (jr_e : ∀ (o1 : Byte), P (Instr.jr_e o1))
    (jr_cc : ∀ (o1 : Byte) (cc : RelCond), P (Instr.jr_cc o1 cc))
    (ld_inn_HL : ∀ (o1 : Byte) (o2 : Byte), P (Instr.ld_inn_HL o1 o2))
    (ld_HL_inn : ∀ (o1 : Byte) (o2 : Byte), P (Instr.ld_HL_inn o1 o2))
    (ld_inn_A : ∀ (o1 : Byte) (o2 : Byte), P (Instr.ld_inn_A o1 o2))
    (ld_r_r : ∀ (r : Reg) (r' : Reg), P (Instr.ld_r_r r r'))
    (ld_r_iHL : ∀ (r : Reg), P (Instr.ld_r_iHL r))
    (ld_iHL_r : ∀ (r : Reg), P (Instr.ld_iHL_r r))
    (sub_r : ∀ (r : Reg), P (Instr.sub_r r))
    (sbc_A_r : ∀ (r : Reg), P (Instr.sbc_A_r r))
    (and_s : ∀ (x : Src), P (Instr.and_s x))
    (xor_s : ∀ (x : Src), P (Instr.xor_s x))
    (or_s : ∀ (x : Src), P (Instr.or_s x))
    (cp_r : ∀ (r : Reg), P (Instr.cp_r r))
    (ret_cc : ∀ (cc : Cond), P (Instr.ret_cc cc))
    (pop_qq : ∀ (q : Qq), P (Instr.pop_qq q))
    (jp_cc : ∀ (o1 : Byte) (o2 : Byte) (cc : Cond), P (Instr.jp_cc o1 o2 cc))
    (jp_nn : ∀ (o1 : Byte) (o2 : Byte), P (Instr.jp_nn o1 o2))
    (call_cc : ∀ (o1 : Byte) (o2 : Byte) (cc : Cond), P (Instr.call_cc o1 o2 cc))
    (push_qq : ∀ (q : Qq), P (Instr.push_qq q))
    (ret : P Instr.ret)
    (call_nn : ∀ (o1 : Byte) (o2 : Byte), P (Instr.call_nn o1 o2))
    (exx : P Instr.exx)
    (ex_DE_HL : P Instr.ex_DE_HL)
    (di : P Instr.di)
    (ei : P Instr.ei)
    (cp_n : ∀ (o1 : Byte), P (Instr.cp_n o1))
    (out_r : ∀ (r : Reg), P (Instr.out_r r))
    (im_n : ∀ (m : IntMode), P (Instr.im_n m))
    (in_A_iC : P Instr.in_A_iC)
    (ldir : P Instr.ldir)
    (srl_r : ∀ (r : Reg), P (Instr.srl_r r))
    (add_IX_pp : ∀ (p : Pp), P (Instr.add_IX_pp p))
    (ld_IX_nn : ∀ (o1 : Byte) (o2 : Byte), P (Instr.ld_IX_nn o1 o2))
    (ld_inn_IX : ∀ (o1 : Byte) (o2 : Byte), P (Instr.ld_inn_IX o1 o2))
    (inc_IX : P Instr.inc_IX)
    (ld_IX_inn : ∀ (o1 : Byte) (o2 : Byte), P (Instr.ld_IX_inn o1 o2))
    (dec_IX : P Instr.dec_IX)
    (pop_IX : P Instr.pop_IX)
    (push_IX : P Instr.push_IX) :
    ∀ i, P i := by
  intro i
  cases i with
  | ld_BC_nn o1 o2 => exact ld_rr_nn o1 o2 .BC
  | ld_iBC_A => exact ld_irr_A .BC
  | inc_BC => exact inc_rr .BC
  | inc_B => exact inc_r .B
  | dec_B => exact dec_r .B
  | ld_B_n o1 => exact ld_r_n o1 .B
  | rlca => exact rlca
  | ex_AF => exact ex_AF
  | add_HL_BC => exact add_HL_rr .BC
  | ld_A_iBC => exact ld_A_irr .BC
  | dec_BC => exact dec_rr .BC
  | inc_C => exact inc_r .C
  | dec_C => exact dec_r .C
  | ld_C_n o1 => exact ld_r_n o1 .C
  | djnz_e o1 => exact djnz_e o1
  | ld_DE_nn o1 o2 => exact ld_rr_nn o1 o2 .DE
  | ld_iDE_A => exact ld_irr_A .DE
  | inc_DE => exact inc_rr .DE
  | inc_D => exact inc_r .D
  | dec_D => exact dec_r .D
  | ld_D_n o1 => exact ld_r_n o1 .D
  | jr_e o1 => exact jr_e o1
  | add_HL_DE => exact add_HL_rr .DE
  | ld_A_iDE => exact ld_A_irr .DE
  | dec_DE => exact dec_rr .DE
  | inc_E => exact inc_r .E
  | dec_E => exact dec_r .E
  | ld_E_n o1 => exact ld_r_n o1 .E
  | jr_NZ_e o1 => exact jr_cc o1 .NZ
  | ld_HL_nn o1 o2 => exact ld_rr_nn o1 o2 .HL
  | ld_inn_HL o1 o2 => exact ld_inn_HL o1 o2
  | inc_HL => exact inc_rr .HL
  | inc_H => exact inc_r .H
  | dec_H => exact dec_r .H
  | ld_H_n o1 => exact ld_r_n o1 .H
  | jr_Z_e o1 => exact jr_cc o1 .Z
  | add_HL_HL => exact add_HL_rr .HL
  | ld_HL_inn o1 o2 => exact ld_HL_inn o1 o2
  | dec_HL => exact dec_rr .HL
  | inc_L => exact inc_r .L
  | dec_L => exact dec_r .L
  | ld_L_n o1 => exact ld_r_n o1 .L
  | jr_NC_e o1 => exact jr_cc o1 .NC
  | ld_inn_A o1 o2 => exact ld_inn_A o1 o2
  | jr_C_e o1 => exact jr_cc o1 .C
  | inc_A => exact inc_r .A
  | dec_A => exact dec_r .A
  | ld_A_n o1 => exact ld_r_n o1 .A
  | ld_B_B => exact ld_r_r .B .B
  | ld_B_C => exact ld_r_r .B .C
  | ld_B_D => exact ld_r_r .B .D
  | ld_B_E => exact ld_r_r .B .E
  | ld_B_H => exact ld_r_r .B .H
  | ld_B_L => exact ld_r_r .B .L
  | ld_B_iHL => exact ld_r_iHL .B
  | ld_B_A => exact ld_r_r .B .A
  | ld_C_B => exact ld_r_r .C .B
  | ld_C_C => exact ld_r_r .C .C
  | ld_C_D => exact ld_r_r .C .D
  | ld_C_E => exact ld_r_r .C .E
  | ld_C_H => exact ld_r_r .C .H
  | ld_C_L => exact ld_r_r .C .L
  | ld_C_iHL => exact ld_r_iHL .C
  | ld_C_A => exact ld_r_r .C .A
  | ld_D_B => exact ld_r_r .D .B
  | ld_D_C => exact ld_r_r .D .C
  | ld_D_D => exact ld_r_r .D .D
  | ld_D_E => exact ld_r_r .D .E
  | ld_D_H => exact ld_r_r .D .H
  | ld_D_L => exact ld_r_r .D .L
  | ld_D_iHL => exact ld_r_iHL .D
  | ld_D_A => exact ld_r_r .D .A
  | ld_E_B => exact ld_r_r .E .B
  | ld_E_C => exact ld_r_r .E .C
  | ld_E_D => exact ld_r_r .E .D
  | ld_E_E => exact ld_r_r .E .E
  | ld_E_H => exact ld_r_r .E .H
  | ld_E_L => exact ld_r_r .E .L
  | ld_E_iHL => exact ld_r_iHL .E
  | ld_E_A => exact ld_r_r .E .A
  | ld_H_B => exact ld_r_r .H .B
  | ld_H_C => exact ld_r_r .H .C
  | ld_H_D => exact ld_r_r .H .D
  | ld_H_E => exact ld_r_r .H .E
  | ld_H_H => exact ld_r_r .H .H
  | ld_H_L => exact ld_r_r .H .L
  | ld_H_iHL => exact ld_r_iHL .H
  | ld_H_A => exact ld_r_r .H .A
  | ld_L_B => exact ld_r_r .L .B
  | ld_L_C => exact ld_r_r .L .C
  | ld_L_D => exact ld_r_r .L .D
  | ld_L_E => exact ld_r_r .L .E
  | ld_L_H => exact ld_r_r .L .H
  | ld_L_L => exact ld_r_r .L .L
  | ld_L_iHL => exact ld_r_iHL .L
  | ld_L_A => exact ld_r_r .L .A
  | ld_iHL_B => exact ld_iHL_r .B
  | ld_iHL_C => exact ld_iHL_r .C
  | ld_iHL_D => exact ld_iHL_r .D
  | ld_iHL_E => exact ld_iHL_r .E
  | ld_iHL_H => exact ld_iHL_r .H
  | ld_iHL_L => exact ld_iHL_r .L
  | ld_iHL_A => exact ld_iHL_r .A
  | ld_A_B => exact ld_r_r .A .B
  | ld_A_C => exact ld_r_r .A .C
  | ld_A_D => exact ld_r_r .A .D
  | ld_A_E => exact ld_r_r .A .E
  | ld_A_H => exact ld_r_r .A .H
  | ld_A_L => exact ld_r_r .A .L
  | ld_A_iHL => exact ld_r_iHL .A
  | ld_A_A => exact ld_r_r .A .A
  | sub_B => exact sub_r .B
  | sub_C => exact sub_r .C
  | sub_D => exact sub_r .D
  | sub_E => exact sub_r .E
  | sub_H => exact sub_r .H
  | sub_L => exact sub_r .L
  | sub_A => exact sub_r .A
  | sbc_A_B => exact sbc_A_r .B
  | sbc_A_C => exact sbc_A_r .C
  | sbc_A_D => exact sbc_A_r .D
  | sbc_A_E => exact sbc_A_r .E
  | sbc_A_H => exact sbc_A_r .H
  | sbc_A_L => exact sbc_A_r .L
  | sbc_A_A => exact sbc_A_r .A
  | and_B => exact and_s (.reg .B)
  | and_C => exact and_s (.reg .C)
  | and_D => exact and_s (.reg .D)
  | and_E => exact and_s (.reg .E)
  | and_H => exact and_s (.reg .H)
  | and_L => exact and_s (.reg .L)
  | and_iHL => exact and_s .iHL
  | and_A => exact and_s (.reg .A)
  | xor_B => exact xor_s (.reg .B)
  | xor_C => exact xor_s (.reg .C)
  | xor_D => exact xor_s (.reg .D)
  | xor_E => exact xor_s (.reg .E)
  | xor_H => exact xor_s (.reg .H)
  | xor_L => exact xor_s (.reg .L)
  | xor_iHL => exact xor_s .iHL
  | xor_A => exact xor_s (.reg .A)
  | or_B => exact or_s (.reg .B)
  | or_C => exact or_s (.reg .C)
  | or_D => exact or_s (.reg .D)
  | or_E => exact or_s (.reg .E)
  | or_H => exact or_s (.reg .H)
  | or_L => exact or_s (.reg .L)
  | or_iHL => exact or_s .iHL
  | or_A => exact or_s (.reg .A)
  | cp_B => exact cp_r .B
  | cp_C => exact cp_r .C
  | cp_D => exact cp_r .D
  | cp_E => exact cp_r .E
  | cp_H => exact cp_r .H
  | cp_L => exact cp_r .L
  | cp_A => exact cp_r .A
  | ret_NZ => exact ret_cc .NZ
  | pop_BC => exact pop_qq .BC
  | jp_NZ_nn o1 o2 => exact jp_cc o1 o2 .NZ
  | jp_nn o1 o2 => exact jp_nn o1 o2
  | call_NZ_nn o1 o2 => exact call_cc o1 o2 .NZ
  | push_BC => exact push_qq .BC
  | ret_Z => exact ret_cc .Z
  | ret => exact ret
  | jp_Z_nn o1 o2 => exact jp_cc o1 o2 .Z
  | call_Z_nn o1 o2 => exact call_cc o1 o2 .Z
  | call_nn o1 o2 => exact call_nn o1 o2
  | ret_NC => exact ret_cc .NC
  | pop_DE => exact pop_qq .DE
  | jp_NC_nn o1 o2 => exact jp_cc o1 o2 .NC
  | call_NC_nn o1 o2 => exact call_cc o1 o2 .NC
  | push_DE => exact push_qq .DE
  | ret_C => exact ret_cc .C
  | exx => exact exx
  | jp_C_nn o1 o2 => exact jp_cc o1 o2 .C
  | call_C_nn o1 o2 => exact call_cc o1 o2 .C
  | ret_PO => exact ret_cc .PO
  | pop_HL => exact pop_qq .HL
  | jp_PO_nn o1 o2 => exact jp_cc o1 o2 .PO
  | call_PO_nn o1 o2 => exact call_cc o1 o2 .PO
  | push_HL => exact push_qq .HL
  | ret_PE => exact ret_cc .PE
  | jp_PE_nn o1 o2 => exact jp_cc o1 o2 .PE
  | ex_DE_HL => exact ex_DE_HL
  | call_PE_nn o1 o2 => exact call_cc o1 o2 .PE
  | ret_P => exact ret_cc .P
  | pop_AF => exact pop_qq .AF
  | jp_P_nn o1 o2 => exact jp_cc o1 o2 .P
  | di => exact di
  | call_P_nn o1 o2 => exact call_cc o1 o2 .P
  | push_AF => exact push_qq .AF
  | ret_M => exact ret_cc .M
  | jp_M_nn o1 o2 => exact jp_cc o1 o2 .M
  | ei => exact ei
  | call_M_nn o1 o2 => exact call_cc o1 o2 .M
  | cp_n o1 => exact cp_n o1
  | out_iC_B => exact out_r .B
  | im_0 => exact im_n .im0
  | out_iC_C => exact out_r .C
  | out_iC_D => exact out_r .D
  | im_1 => exact im_n .im1
  | out_iC_E => exact out_r .E
  | im_2 => exact im_n .im2
  | out_iC_H => exact out_r .H
  | out_iC_L => exact out_r .L
  | in_A_iC => exact in_A_iC
  | out_iC_A => exact out_r .A
  | ldir => exact ldir
  | srl_B => exact srl_r .B
  | srl_C => exact srl_r .C
  | srl_D => exact srl_r .D
  | srl_E => exact srl_r .E
  | srl_H => exact srl_r .H
  | srl_L => exact srl_r .L
  | srl_A => exact srl_r .A
  | add_IX_BC => exact add_IX_pp .BC
  | add_IX_DE => exact add_IX_pp .DE
  | ld_IX_nn o1 o2 => exact ld_IX_nn o1 o2
  | ld_inn_IX o1 o2 => exact ld_inn_IX o1 o2
  | inc_IX => exact inc_IX
  | add_IX_IX => exact add_IX_pp .IX
  | ld_IX_inn o1 o2 => exact ld_IX_inn o1 o2
  | dec_IX => exact dec_IX
  | pop_IX => exact pop_IX
  | push_IX => exact push_IX

end Sys2Proof

namespace Sys2Proof.Machine

/-- The reported cost of a logical operation on its operand (`70_reset_and_hazards.md` rule R301). -/
def srcCost (x : Src) (s : State) : Nat :=
  match x with
  | .reg _ => s.cfg.cycles.aluR
  | .iHL => s.cfg.cycles.aluiHL

variable (s : State)

theorem exec_ld_rr_nn (o1 : Byte) (o2 : Byte) (p : Rr) : exec (.ld_rr_nn o1 o2 p) s = loadPair p.pair (s.imm o1 o2) .B2 s.cfg.cycles.ldRRnn s := by
  cases p <;> rfl

theorem exec_ld_irr_A (p : PtrPair) : exec (.ld_irr_A p) s = storeByte (s.pair p.pair) (s.reg .A) .B0 s.cfg.cycles.ldiRRA s := by
  cases p <;> rfl

theorem exec_inc_rr (p : Rr) : exec (.inc_rr p) s = incPair p.pair .B0 s.cfg.cycles.incRR s := by
  cases p <;> rfl

theorem exec_inc_r (r : Reg) : exec (.inc_r r) s = incReg r s := by
  cases r <;> rfl

theorem exec_dec_r (r : Reg) : exec (.dec_r r) s = decReg r s := by
  cases r <;> rfl

theorem exec_ld_r_n (o1 : Byte) (r : Reg) : exec (.ld_r_n o1 r) s = loadReg r o1 .B1 s.cfg.cycles.ldRN s := by
  cases r <;> rfl

theorem exec_add_HL_rr (p : Rr) : exec (.add_HL_rr p) s = addPair .HL p.pair .B0 s.cfg.cycles.addHL s := by
  cases p <;> rfl

theorem exec_ld_A_irr (p : PtrPair) : exec (.ld_A_irr p) s = loadReg .A (s.readByte (s.pair p.pair)) .B0 s.cfg.cycles.ldAiRR s := by
  cases p <;> rfl

theorem exec_dec_rr (p : Rr) : exec (.dec_rr p) s = decPair p.pair .B0 s.cfg.cycles.decRR s := by
  cases p <;> rfl

theorem exec_jr_cc (o1 : Byte) (cc : RelCond) : exec (.jr_cc o1 cc) s = jumpIf (s.cond cc.cond) (s.relTarget o1) .B1 s.cfg.cycles.jrCc s := by
  cases cc <;> rfl

theorem exec_ld_r_r (r : Reg) (r' : Reg) : exec (.ld_r_r r r') s = loadReg r (s.reg r') .B0 s.cfg.cycles.ldRR s := by
  cases r <;> cases r' <;> rfl

theorem exec_ld_r_iHL (r : Reg) : exec (.ld_r_iHL r) s = loadReg r (s.readByte (s.pair .HL)) .B0 s.cfg.cycles.ldRiHL s := by
  cases r <;> rfl

theorem exec_ld_iHL_r (r : Reg) : exec (.ld_iHL_r r) s = storeByte (s.pair .HL) (s.reg r) .B0 s.cfg.cycles.ldiHLR s := by
  cases r <;> rfl

theorem exec_sub_r (r : Reg) : exec (.sub_r r) s = subA (s.reg r) s := by
  cases r <;> rfl

theorem exec_sbc_A_r (r : Reg) : exec (.sbc_A_r r) s = sbcA (s.reg r) s := by
  cases r <;> rfl

theorem exec_and_s (x : Src) : exec (.and_s x) s = andA (srcValue s x) (srcCost x s) s := by
  rcases x with r | _ <;> [cases r; skip] <;> rfl

theorem exec_xor_s (x : Src) : exec (.xor_s x) s = xorA (srcValue s x) (srcCost x s) s := by
  rcases x with r | _ <;> [cases r; skip] <;> rfl

theorem exec_or_s (x : Src) : exec (.or_s x) s = orA (srcValue s x) (srcCost x s) s := by
  rcases x with r | _ <;> [cases r; skip] <;> rfl

theorem exec_cp_r (r : Reg) : exec (.cp_r r) s = compareA (s.reg r) .B0 s.cfg.cycles.aluR s := by
  cases r <;> rfl

theorem exec_ret_cc (cc : Cond) : exec (.ret_cc cc) s = retIf (s.cond cc) s := by
  cases cc <;> rfl

theorem exec_pop_qq (q : Qq) : exec (.pop_qq q) s = popPair q.pair .B0 s.cfg.cycles.pop s := by
  cases q <;> rfl

theorem exec_jp_cc (o1 : Byte) (o2 : Byte) (cc : Cond) : exec (.jp_cc o1 o2 cc) s = jumpIf (s.cond cc) (s.imm o1 o2) .B2 s.cfg.cycles.jpCc s := by
  cases cc <;> rfl

theorem exec_call_cc (o1 : Byte) (o2 : Byte) (cc : Cond) : exec (.call_cc o1 o2 cc) s = callIf (s.cond cc) (s.imm o1 o2) s := by
  cases cc <;> rfl

theorem exec_push_qq (q : Qq) : exec (.push_qq q) s = pushPair q.pair .B0 s.cfg.cycles.push s := by
  cases q <;> rfl

theorem exec_out_r (r : Reg) : exec (.out_r r) s = outReg r s := by
  cases r <;> rfl

theorem exec_im_n (m : IntMode) : exec (.im_n m) s = setIntMode m s := by
  cases m <;> rfl

theorem exec_srl_r (r : Reg) : exec (.srl_r r) s = shiftRight r s := by
  cases r <;> rfl

theorem exec_add_IX_pp (p : Pp) : exec (.add_IX_pp p) s = addPair .IX p.pair .P0 s.cfg.cycles.addIX s := by
  cases p <;> rfl

/-! ### Control transfers and stores, by shape: these are decided by reduction, never by `simp` over all rows -/

theorem isTransfer_djnz_e (o1 : Byte) : isTransfer (.djnz_e o1) = true := rfl
theorem isTransfer_jr_e (o1 : Byte) : isTransfer (.jr_e o1) = true := rfl
theorem isTransfer_jr_cc (o1 : Byte) (cc : RelCond) : isTransfer (.jr_cc o1 cc) = true := by cases cc <;> rfl
theorem isTransfer_ret_cc (cc : Cond) : isTransfer (.ret_cc cc) = true := by cases cc <;> rfl
theorem isTransfer_jp_cc (o1 : Byte) (o2 : Byte) (cc : Cond) : isTransfer (.jp_cc o1 o2 cc) = true := by cases cc <;> rfl
theorem isTransfer_jp_nn (o1 : Byte) (o2 : Byte) : isTransfer (.jp_nn o1 o2) = true := rfl
theorem isTransfer_call_cc (o1 : Byte) (o2 : Byte) (cc : Cond) : isTransfer (.call_cc o1 o2 cc) = true := by cases cc <;> rfl
theorem isTransfer_ret : isTransfer .ret = true := rfl
theorem isTransfer_call_nn (o1 : Byte) (o2 : Byte) : isTransfer (.call_nn o1 o2) = true := rfl

theorem storesTo_ld_iHL_r (r : Reg) (a : Word) : storesTo (.ld_iHL_r r) s a = (a == s.pair .HL) := by
  cases r <;> rfl

theorem storesTo_ld_irr_A (p : PtrPair) (a : Word) : storesTo (.ld_irr_A p) s a = (a == s.pair p.pair) := by
  cases p <;> rfl

theorem storesTo_push_qq (q : Qq) (a : Word) : storesTo (.push_qq q) s a = (s.pushes a) := by
  cases q <;> rfl

theorem storesTo_call_cc (o1 : Byte) (o2 : Byte) (cc : Cond) (a : Word) : storesTo (.call_cc o1 o2 cc) s a = (s.cond cc && s.pushes a) := by
  cases cc <;> rfl

end Sys2Proof.Machine
end

