-- ==== Sys2Proof/Laws/Flags.lean ====
section
/-! SUPPORT. The laws of the flags byte and of joined bytes. Each flag computation is a chain of `Flag.put`, so `Flag.get_put`
and `Flag.put_bit` say all of them do. -/

namespace Sys2Proof.Machine

/-- `flag.X <- b` writes that one bit and no other (`10_state.md` rule R24). -/
@[simp] theorem Flag.get_put (fl fl' : Flag) (b : Bool) (f : Byte) :
    fl'.get (fl.put b f) = if fl' = fl then b else fl'.get f := by
  cases fl <;> cases fl' <;> cases b <;> simp [Flag.get, Flag.put, Flag.mask, Flag.bit]

/-- No flag write touches bits 5 and 3 (`10_state.md` rule R24). -/
@[simp] theorem Flag.put_bit5 (fl : Flag) (b : Bool) (f : Byte) : (fl.put b f)[5] = f[5] := by
  cases fl <;> cases b <;> simp [Flag.put, Flag.mask, Flag.bit]

@[simp] theorem Flag.put_bit3 (fl : Flag) (b : Bool) (f : Byte) : (fl.put b f)[3] = f[3] := by
  cases fl <;> cases b <;> simp [Flag.put, Flag.mask, Flag.bit]

/-! ### Joined bytes -/

theorem join_getLsbD (h l : Byte) (i : Nat) :
    (join h l).getLsbD i = if i < 8 then l.getLsbD i else h.getLsbD (i - 8) := by
  have := @BitVec.getLsbD_append 8 8 i h l
  simpa [join, Bool.cond_eq_ite] using this

@[simp] theorem hiByte_join (h l : Byte) : hiByte (join h l) = h := by
  apply BitVec.eq_of_getLsbD_eq
  intro i hi
  simp only [hiByte, BitVec.getLsbD_extractLsb', join_getLsbD]
  simp [hi]

@[simp] theorem loByte_join (h l : Byte) : loByte (join h l) = l := by
  apply BitVec.eq_of_getLsbD_eq
  intro i hi
  simp only [loByte, BitVec.getLsbD_extractLsb', join_getLsbD]
  simp [hi]

@[simp] theorem join_hi_lo (v : Word) : join (hiByte v) (loByte v) = v := by
  apply BitVec.eq_of_getLsbD_eq
  intro i hi
  simp only [hiByte, loByte, join_getLsbD, BitVec.getLsbD_extractLsb']
  by_cases h : i < 8
  · simp [h]
  · have h1 : i - 8 < 8 := by omega
    have h2 : 8 + (i - 8) = i := by omega
    simp [h, h1, h2]

/-- The value of a pair as a number: `r[X] * 256 + r[Y]` (`10_state.md` rule R22). -/
theorem join_toNat (h l : Byte) : (join h l).toNat = h.toNat * 256 + l.toNat := by
  have e : (join h l).toNat = h.toNat <<< 8 ||| l.toNat := BitVec.toNat_append h l
  rw [e, Nat.shiftLeft_eq, Nat.mul_comm, ← Nat.two_pow_add_eq_or_of_lt l.isLt, Nat.mul_comm]

/-- The high byte of a word as a number (`00_scope.md` rule R6). -/
theorem hiByte_toNat (v : Word) : (hiByte v).toNat = v.toNat / 256 := by
  have h := join_toNat (hiByte v) (loByte v)
  rw [join_hi_lo] at h
  have := (loByte v).isLt
  omega

/-- The low byte of a word as a number (`00_scope.md` rule R6). -/
theorem loByte_toNat (v : Word) : (loByte v).toNat = v.toNat % 256 := by
  have h := join_toNat (hiByte v) (loByte v)
  rw [join_hi_lo] at h
  have := (loByte v).isLt
  omega

/-! ### The tests the flag computations make -/

theorem msb_eq_bit7 (v : Byte) : v.msb = v.getLsbD 7 := by simp [BitVec.msb_eq_getLsbD_last]

theorem beq_zero (v : Byte) : (v == 0) = decide (v = 0) := rfl

set_option maxRecDepth 4000 in
theorem lowNibble_eq_15 (v : Byte) : (v &&& 0x0F == 0x0F) = decide (v.toNat % 16 = 15) := by
  revert v
  decide

set_option maxRecDepth 4000 in
theorem lowNibble_eq_0 (v : Byte) : (v &&& 0x0F == 0x00) = decide (v.toNat % 16 = 0) := by
  revert v
  decide

/-! ### Relative targets -/

/-- The displacement is the operand byte as a signed number, mod 65536 (`30_encoding.md` rule R87). -/
theorem displacement_toNat (o1 : Byte) : ((displacement o1).toNat : Int) = o1.toInt % 65536 := by
  revert o1
  decide

end Sys2Proof.Machine
end

