-- ==== Sys2Proof/Laws/State.lean ====
section
/-! SUPPORT. The small lemmas of the state updates: one per field per update, so that no later proof unfolds a record update, and
the reads of registers, pairs and flags across them. -/

namespace Sys2Proof.Machine

/-! ### A bank -/

@[simp] theorem Bank.set_f (k : Bank) (r : Reg) (v : Byte) : (k.set r v).f = k.f := by cases r <;> rfl

@[simp] theorem Bank.get_set (k : Bank) (r r' : Reg) (v : Byte) :
    (k.set r v).get r' = if r' = r then v else k.get r' := by
  cases r <;> cases r' <;> rfl

namespace State

variable (s : State)

/-! ### `setReg` -/

@[simp] theorem setReg_main (r : Reg) (v : Byte) : (s.setReg r v).main = s.main.set r v := rfl
@[simp] theorem setReg_shadow (r : Reg) (v : Byte) : (s.setReg r v).shadow = s.shadow := rfl
@[simp] theorem setReg_ixh (r : Reg) (v : Byte) : (s.setReg r v).ixh = s.ixh := rfl
@[simp] theorem setReg_ixl (r : Reg) (v : Byte) : (s.setReg r v).ixl = s.ixl := rfl
@[simp] theorem setReg_iyh (r : Reg) (v : Byte) : (s.setReg r v).iyh = s.iyh := rfl
@[simp] theorem setReg_iyl (r : Reg) (v : Byte) : (s.setReg r v).iyl = s.iyl := rfl
@[simp] theorem setReg_pc (r : Reg) (v : Byte) : (s.setReg r v).pc = s.pc := rfl
@[simp] theorem setReg_sp (r : Reg) (v : Byte) : (s.setReg r v).sp = s.sp := rfl
@[simp] theorem setReg_iff1 (r : Reg) (v : Byte) : (s.setReg r v).iff1 = s.iff1 := rfl
@[simp] theorem setReg_iff2 (r : Reg) (v : Byte) : (s.setReg r v).iff2 = s.iff2 := rfl
@[simp] theorem setReg_im (r : Reg) (v : Byte) : (s.setReg r v).im = s.im := rfl
@[simp] theorem setReg_mem (r : Reg) (v : Byte) : (s.setReg r v).mem = s.mem := rfl
@[simp] theorem setReg_stop (r : Reg) (v : Byte) : (s.setReg r v).stop = s.stop := rfl
@[simp] theorem setReg_ports (r : Reg) (v : Byte) : (s.setReg r v).ports = s.ports := rfl
@[simp] theorem setReg_draws (r : Reg) (v : Byte) : (s.setReg r v).draws = s.draws := rfl
@[simp] theorem setReg_answers (r : Reg) (v : Byte) : (s.setReg r v).answers = s.answers := rfl
@[simp] theorem setReg_cycles (r : Reg) (v : Byte) : (s.setReg r v).cycles = s.cycles := rfl
@[simp] theorem setReg_cfg (r : Reg) (v : Byte) : (s.setReg r v).cfg = s.cfg := rfl

/-! ### `setF` -/

@[simp] theorem setF_main (v : Byte) : (s.setF v).main = { s.main with f := v } := rfl
@[simp] theorem setF_shadow (v : Byte) : (s.setF v).shadow = s.shadow := rfl
@[simp] theorem setF_ixh (v : Byte) : (s.setF v).ixh = s.ixh := rfl
@[simp] theorem setF_ixl (v : Byte) : (s.setF v).ixl = s.ixl := rfl
@[simp] theorem setF_iyh (v : Byte) : (s.setF v).iyh = s.iyh := rfl
@[simp] theorem setF_iyl (v : Byte) : (s.setF v).iyl = s.iyl := rfl
@[simp] theorem setF_pc (v : Byte) : (s.setF v).pc = s.pc := rfl
@[simp] theorem setF_sp (v : Byte) : (s.setF v).sp = s.sp := rfl
@[simp] theorem setF_iff1 (v : Byte) : (s.setF v).iff1 = s.iff1 := rfl
@[simp] theorem setF_iff2 (v : Byte) : (s.setF v).iff2 = s.iff2 := rfl
@[simp] theorem setF_im (v : Byte) : (s.setF v).im = s.im := rfl
@[simp] theorem setF_mem (v : Byte) : (s.setF v).mem = s.mem := rfl
@[simp] theorem setF_stop (v : Byte) : (s.setF v).stop = s.stop := rfl
@[simp] theorem setF_ports (v : Byte) : (s.setF v).ports = s.ports := rfl
@[simp] theorem setF_draws (v : Byte) : (s.setF v).draws = s.draws := rfl
@[simp] theorem setF_answers (v : Byte) : (s.setF v).answers = s.answers := rfl
@[simp] theorem setF_cycles (v : Byte) : (s.setF v).cycles = s.cycles := rfl
@[simp] theorem setF_cfg (v : Byte) : (s.setF v).cfg = s.cfg := rfl

/-! ### `writeByte` -/

@[simp] theorem writeByte_main (a : Word) (v : Byte) : (s.writeByte a v).main = s.main := rfl
@[simp] theorem writeByte_shadow (a : Word) (v : Byte) : (s.writeByte a v).shadow = s.shadow := rfl
@[simp] theorem writeByte_ixh (a : Word) (v : Byte) : (s.writeByte a v).ixh = s.ixh := rfl
@[simp] theorem writeByte_ixl (a : Word) (v : Byte) : (s.writeByte a v).ixl = s.ixl := rfl
@[simp] theorem writeByte_iyh (a : Word) (v : Byte) : (s.writeByte a v).iyh = s.iyh := rfl
@[simp] theorem writeByte_iyl (a : Word) (v : Byte) : (s.writeByte a v).iyl = s.iyl := rfl
@[simp] theorem writeByte_pc (a : Word) (v : Byte) : (s.writeByte a v).pc = s.pc := rfl
@[simp] theorem writeByte_sp (a : Word) (v : Byte) : (s.writeByte a v).sp = s.sp := rfl
@[simp] theorem writeByte_iff1 (a : Word) (v : Byte) : (s.writeByte a v).iff1 = s.iff1 := rfl
@[simp] theorem writeByte_iff2 (a : Word) (v : Byte) : (s.writeByte a v).iff2 = s.iff2 := rfl
@[simp] theorem writeByte_im (a : Word) (v : Byte) : (s.writeByte a v).im = s.im := rfl
@[simp] theorem writeByte_mem (a : Word) (v : Byte) : (s.writeByte a v).mem = Memory.write s.cfg.memFill a.toNat v s.mem := rfl
@[simp] theorem writeByte_stop (a : Word) (v : Byte) : (s.writeByte a v).stop = s.stop := rfl
@[simp] theorem writeByte_ports (a : Word) (v : Byte) : (s.writeByte a v).ports = s.ports := rfl
@[simp] theorem writeByte_draws (a : Word) (v : Byte) : (s.writeByte a v).draws = s.draws := rfl
@[simp] theorem writeByte_answers (a : Word) (v : Byte) : (s.writeByte a v).answers = s.answers := rfl
@[simp] theorem writeByte_cycles (a : Word) (v : Byte) : (s.writeByte a v).cycles = s.cycles := rfl
@[simp] theorem writeByte_cfg (a : Word) (v : Byte) : (s.writeByte a v).cfg = s.cfg := rfl

/-! ### `retire` -/

@[simp] theorem retire_main (fmt : Format) (cost : Nat) : (s.retire fmt cost).main = s.main := rfl
@[simp] theorem retire_shadow (fmt : Format) (cost : Nat) : (s.retire fmt cost).shadow = s.shadow := rfl
@[simp] theorem retire_ixh (fmt : Format) (cost : Nat) : (s.retire fmt cost).ixh = s.ixh := rfl
@[simp] theorem retire_ixl (fmt : Format) (cost : Nat) : (s.retire fmt cost).ixl = s.ixl := rfl
@[simp] theorem retire_iyh (fmt : Format) (cost : Nat) : (s.retire fmt cost).iyh = s.iyh := rfl
@[simp] theorem retire_iyl (fmt : Format) (cost : Nat) : (s.retire fmt cost).iyl = s.iyl := rfl
@[simp] theorem retire_pc (fmt : Format) (cost : Nat) : (s.retire fmt cost).pc = s.pcNext fmt := rfl
@[simp] theorem retire_sp (fmt : Format) (cost : Nat) : (s.retire fmt cost).sp = s.sp := rfl
@[simp] theorem retire_iff1 (fmt : Format) (cost : Nat) : (s.retire fmt cost).iff1 = s.iff1 := rfl
@[simp] theorem retire_iff2 (fmt : Format) (cost : Nat) : (s.retire fmt cost).iff2 = s.iff2 := rfl
@[simp] theorem retire_im (fmt : Format) (cost : Nat) : (s.retire fmt cost).im = s.im := rfl
@[simp] theorem retire_mem (fmt : Format) (cost : Nat) : (s.retire fmt cost).mem = s.mem := rfl
@[simp] theorem retire_stop (fmt : Format) (cost : Nat) : (s.retire fmt cost).stop = s.stop := rfl
@[simp] theorem retire_ports (fmt : Format) (cost : Nat) : (s.retire fmt cost).ports = s.ports := rfl
@[simp] theorem retire_draws (fmt : Format) (cost : Nat) : (s.retire fmt cost).draws = s.draws := rfl
@[simp] theorem retire_answers (fmt : Format) (cost : Nat) : (s.retire fmt cost).answers = s.answers := rfl
@[simp] theorem retire_cycles (fmt : Format) (cost : Nat) : (s.retire fmt cost).cycles = cost := rfl
@[simp] theorem retire_cfg (fmt : Format) (cost : Nat) : (s.retire fmt cost).cfg = s.cfg := rfl

/-! ### `jump` -/

@[simp] theorem jump_main (target : Word) (cost : Nat) : (s.jump target cost).main = s.main := rfl
@[simp] theorem jump_shadow (target : Word) (cost : Nat) : (s.jump target cost).shadow = s.shadow := rfl
@[simp] theorem jump_ixh (target : Word) (cost : Nat) : (s.jump target cost).ixh = s.ixh := rfl
@[simp] theorem jump_ixl (target : Word) (cost : Nat) : (s.jump target cost).ixl = s.ixl := rfl
@[simp] theorem jump_iyh (target : Word) (cost : Nat) : (s.jump target cost).iyh = s.iyh := rfl
@[simp] theorem jump_iyl (target : Word) (cost : Nat) : (s.jump target cost).iyl = s.iyl := rfl
@[simp] theorem jump_pc (target : Word) (cost : Nat) : (s.jump target cost).pc = target := rfl
@[simp] theorem jump_sp (target : Word) (cost : Nat) : (s.jump target cost).sp = s.sp := rfl
@[simp] theorem jump_iff1 (target : Word) (cost : Nat) : (s.jump target cost).iff1 = s.iff1 := rfl
@[simp] theorem jump_iff2 (target : Word) (cost : Nat) : (s.jump target cost).iff2 = s.iff2 := rfl
@[simp] theorem jump_im (target : Word) (cost : Nat) : (s.jump target cost).im = s.im := rfl
@[simp] theorem jump_mem (target : Word) (cost : Nat) : (s.jump target cost).mem = s.mem := rfl
@[simp] theorem jump_stop (target : Word) (cost : Nat) : (s.jump target cost).stop = s.stop := rfl
@[simp] theorem jump_ports (target : Word) (cost : Nat) : (s.jump target cost).ports = s.ports := rfl
@[simp] theorem jump_draws (target : Word) (cost : Nat) : (s.jump target cost).draws = s.draws := rfl
@[simp] theorem jump_answers (target : Word) (cost : Nat) : (s.jump target cost).answers = s.answers := rfl
@[simp] theorem jump_cycles (target : Word) (cost : Nat) : (s.jump target cost).cycles = cost := rfl
@[simp] theorem jump_cfg (target : Word) (cost : Nat) : (s.jump target cost).cfg = s.cfg := rfl

/-! ### `portWrite` -/

@[simp] theorem portWrite_main (port : Word) (v : Byte) : (s.portWrite port v).main = s.main := rfl
@[simp] theorem portWrite_shadow (port : Word) (v : Byte) : (s.portWrite port v).shadow = s.shadow := rfl
@[simp] theorem portWrite_ixh (port : Word) (v : Byte) : (s.portWrite port v).ixh = s.ixh := rfl
@[simp] theorem portWrite_ixl (port : Word) (v : Byte) : (s.portWrite port v).ixl = s.ixl := rfl
@[simp] theorem portWrite_iyh (port : Word) (v : Byte) : (s.portWrite port v).iyh = s.iyh := rfl
@[simp] theorem portWrite_iyl (port : Word) (v : Byte) : (s.portWrite port v).iyl = s.iyl := rfl
@[simp] theorem portWrite_pc (port : Word) (v : Byte) : (s.portWrite port v).pc = s.pc := rfl
@[simp] theorem portWrite_sp (port : Word) (v : Byte) : (s.portWrite port v).sp = s.sp := rfl
@[simp] theorem portWrite_iff1 (port : Word) (v : Byte) : (s.portWrite port v).iff1 = s.iff1 := rfl
@[simp] theorem portWrite_iff2 (port : Word) (v : Byte) : (s.portWrite port v).iff2 = s.iff2 := rfl
@[simp] theorem portWrite_im (port : Word) (v : Byte) : (s.portWrite port v).im = s.im := rfl
@[simp] theorem portWrite_mem (port : Word) (v : Byte) : (s.portWrite port v).mem = s.mem := rfl
@[simp] theorem portWrite_stop (port : Word) (v : Byte) : (s.portWrite port v).stop = s.stop := rfl
@[simp] theorem portWrite_ports (port : Word) (v : Byte) : (s.portWrite port v).ports = s.ports ++ [.write port v] := rfl
@[simp] theorem portWrite_draws (port : Word) (v : Byte) : (s.portWrite port v).draws = s.draws := rfl
@[simp] theorem portWrite_answers (port : Word) (v : Byte) : (s.portWrite port v).answers = s.answers := rfl
@[simp] theorem portWrite_cycles (port : Word) (v : Byte) : (s.portWrite port v).cycles = s.cycles := rfl
@[simp] theorem portWrite_cfg (port : Word) (v : Byte) : (s.portWrite port v).cfg = s.cfg := rfl

/-! ### `portRead` -/

@[simp] theorem portRead_main (port : Word) (v : Byte) : (s.portRead port v).main = s.main := rfl
@[simp] theorem portRead_shadow (port : Word) (v : Byte) : (s.portRead port v).shadow = s.shadow := rfl
@[simp] theorem portRead_ixh (port : Word) (v : Byte) : (s.portRead port v).ixh = s.ixh := rfl
@[simp] theorem portRead_ixl (port : Word) (v : Byte) : (s.portRead port v).ixl = s.ixl := rfl
@[simp] theorem portRead_iyh (port : Word) (v : Byte) : (s.portRead port v).iyh = s.iyh := rfl
@[simp] theorem portRead_iyl (port : Word) (v : Byte) : (s.portRead port v).iyl = s.iyl := rfl
@[simp] theorem portRead_pc (port : Word) (v : Byte) : (s.portRead port v).pc = s.pc := rfl
@[simp] theorem portRead_sp (port : Word) (v : Byte) : (s.portRead port v).sp = s.sp := rfl
@[simp] theorem portRead_iff1 (port : Word) (v : Byte) : (s.portRead port v).iff1 = s.iff1 := rfl
@[simp] theorem portRead_iff2 (port : Word) (v : Byte) : (s.portRead port v).iff2 = s.iff2 := rfl
@[simp] theorem portRead_im (port : Word) (v : Byte) : (s.portRead port v).im = s.im := rfl
@[simp] theorem portRead_mem (port : Word) (v : Byte) : (s.portRead port v).mem = s.mem := rfl
@[simp] theorem portRead_stop (port : Word) (v : Byte) : (s.portRead port v).stop = s.stop := rfl
@[simp] theorem portRead_ports (port : Word) (v : Byte) : (s.portRead port v).ports = s.ports ++ [.read port v] := rfl
@[simp] theorem portRead_draws (port : Word) (v : Byte) : (s.portRead port v).draws = s.draws + 1 := rfl
@[simp] theorem portRead_answers (port : Word) (v : Byte) : (s.portRead port v).answers = s.answers.tail := rfl
@[simp] theorem portRead_cycles (port : Word) (v : Byte) : (s.portRead port v).cycles = s.cycles := rfl
@[simp] theorem portRead_cfg (port : Word) (v : Byte) : (s.portRead port v).cfg = s.cfg := rfl

/-! ### `recordStop` -/

@[simp] theorem recordStop_main (u : Unmapped) : (s.recordStop u).main = s.main := rfl
@[simp] theorem recordStop_shadow (u : Unmapped) : (s.recordStop u).shadow = s.shadow := rfl
@[simp] theorem recordStop_ixh (u : Unmapped) : (s.recordStop u).ixh = s.ixh := rfl
@[simp] theorem recordStop_ixl (u : Unmapped) : (s.recordStop u).ixl = s.ixl := rfl
@[simp] theorem recordStop_iyh (u : Unmapped) : (s.recordStop u).iyh = s.iyh := rfl
@[simp] theorem recordStop_iyl (u : Unmapped) : (s.recordStop u).iyl = s.iyl := rfl
@[simp] theorem recordStop_pc (u : Unmapped) : (s.recordStop u).pc = s.pc := rfl
@[simp] theorem recordStop_sp (u : Unmapped) : (s.recordStop u).sp = s.sp := rfl
@[simp] theorem recordStop_iff1 (u : Unmapped) : (s.recordStop u).iff1 = s.iff1 := rfl
@[simp] theorem recordStop_iff2 (u : Unmapped) : (s.recordStop u).iff2 = s.iff2 := rfl
@[simp] theorem recordStop_im (u : Unmapped) : (s.recordStop u).im = s.im := rfl
@[simp] theorem recordStop_mem (u : Unmapped) : (s.recordStop u).mem = s.mem := rfl
@[simp] theorem recordStop_stop (u : Unmapped) : (s.recordStop u).stop = some u := rfl
@[simp] theorem recordStop_ports (u : Unmapped) : (s.recordStop u).ports = s.ports := rfl
@[simp] theorem recordStop_draws (u : Unmapped) : (s.recordStop u).draws = s.draws := rfl
@[simp] theorem recordStop_answers (u : Unmapped) : (s.recordStop u).answers = s.answers := rfl
@[simp] theorem recordStop_cycles (u : Unmapped) : (s.recordStop u).cycles = s.cycles := rfl
@[simp] theorem recordStop_cfg (u : Unmapped) : (s.recordStop u).cfg = s.cfg := rfl

/-! ### `run` -/

@[simp] theorem run_main (start : Word) : (s.run start).main = s.main := rfl
@[simp] theorem run_shadow (start : Word) : (s.run start).shadow = s.shadow := rfl
@[simp] theorem run_ixh (start : Word) : (s.run start).ixh = s.ixh := rfl
@[simp] theorem run_ixl (start : Word) : (s.run start).ixl = s.ixl := rfl
@[simp] theorem run_iyh (start : Word) : (s.run start).iyh = s.iyh := rfl
@[simp] theorem run_iyl (start : Word) : (s.run start).iyl = s.iyl := rfl
@[simp] theorem run_pc (start : Word) : (s.run start).pc = start := rfl
@[simp] theorem run_sp (start : Word) : (s.run start).sp = s.sp := rfl
@[simp] theorem run_iff1 (start : Word) : (s.run start).iff1 = s.iff1 := rfl
@[simp] theorem run_iff2 (start : Word) : (s.run start).iff2 = s.iff2 := rfl
@[simp] theorem run_im (start : Word) : (s.run start).im = s.im := rfl
@[simp] theorem run_mem (start : Word) : (s.run start).mem = s.mem := rfl
@[simp] theorem run_stop (start : Word) : (s.run start).stop = s.stop := rfl
@[simp] theorem run_ports (start : Word) : (s.run start).ports = s.ports := rfl
@[simp] theorem run_draws (start : Word) : (s.run start).draws = s.draws := rfl
@[simp] theorem run_answers (start : Word) : (s.run start).answers = s.answers := rfl
@[simp] theorem run_cycles (start : Word) : (s.run start).cycles = s.cycles := rfl
@[simp] theorem run_cfg (start : Word) : (s.run start).cfg = s.cfg := rfl

/-! ### `setPair` -/

@[simp] theorem setPair_shadow (p : Pair) (v : Word) : (s.setPair p v).shadow = s.shadow := by cases p <;> rfl
@[simp] theorem setPair_iyh (p : Pair) (v : Word) : (s.setPair p v).iyh = s.iyh := by cases p <;> rfl
@[simp] theorem setPair_iyl (p : Pair) (v : Word) : (s.setPair p v).iyl = s.iyl := by cases p <;> rfl
@[simp] theorem setPair_pc (p : Pair) (v : Word) : (s.setPair p v).pc = s.pc := by cases p <;> rfl
@[simp] theorem setPair_sp (p : Pair) (v : Word) : (s.setPair p v).sp = s.sp := by cases p <;> rfl
@[simp] theorem setPair_iff1 (p : Pair) (v : Word) : (s.setPair p v).iff1 = s.iff1 := by cases p <;> rfl
@[simp] theorem setPair_iff2 (p : Pair) (v : Word) : (s.setPair p v).iff2 = s.iff2 := by cases p <;> rfl
@[simp] theorem setPair_im (p : Pair) (v : Word) : (s.setPair p v).im = s.im := by cases p <;> rfl
@[simp] theorem setPair_mem (p : Pair) (v : Word) : (s.setPair p v).mem = s.mem := by cases p <;> rfl
@[simp] theorem setPair_stop (p : Pair) (v : Word) : (s.setPair p v).stop = s.stop := by cases p <;> rfl
@[simp] theorem setPair_ports (p : Pair) (v : Word) : (s.setPair p v).ports = s.ports := by cases p <;> rfl
@[simp] theorem setPair_draws (p : Pair) (v : Word) : (s.setPair p v).draws = s.draws := by cases p <;> rfl
@[simp] theorem setPair_answers (p : Pair) (v : Word) : (s.setPair p v).answers = s.answers := by cases p <;> rfl
@[simp] theorem setPair_cycles (p : Pair) (v : Word) : (s.setPair p v).cycles = s.cycles := by cases p <;> rfl
@[simp] theorem setPair_cfg (p : Pair) (v : Word) : (s.setPair p v).cfg = s.cfg := by cases p <;> rfl

@[simp] theorem setPair_BC_main (v : Word) :
    (s.setPair .BC v).main = { s.main with b := hiByte v, c := loByte v } := rfl
@[simp] theorem setPair_BC_ixh (v : Word) : (s.setPair .BC v).ixh = s.ixh := rfl
@[simp] theorem setPair_BC_ixl (v : Word) : (s.setPair .BC v).ixl = s.ixl := rfl
@[simp] theorem setPair_DE_main (v : Word) :
    (s.setPair .DE v).main = { s.main with d := hiByte v, e := loByte v } := rfl
@[simp] theorem setPair_DE_ixh (v : Word) : (s.setPair .DE v).ixh = s.ixh := rfl
@[simp] theorem setPair_DE_ixl (v : Word) : (s.setPair .DE v).ixl = s.ixl := rfl
@[simp] theorem setPair_HL_main (v : Word) :
    (s.setPair .HL v).main = { s.main with h := hiByte v, l := loByte v } := rfl
@[simp] theorem setPair_HL_ixh (v : Word) : (s.setPair .HL v).ixh = s.ixh := rfl
@[simp] theorem setPair_HL_ixl (v : Word) : (s.setPair .HL v).ixl = s.ixl := rfl
@[simp] theorem setPair_AF_main (v : Word) :
    (s.setPair .AF v).main = { s.main with a := hiByte v, f := loByte v } := rfl
@[simp] theorem setPair_AF_ixh (v : Word) : (s.setPair .AF v).ixh = s.ixh := rfl
@[simp] theorem setPair_AF_ixl (v : Word) : (s.setPair .AF v).ixl = s.ixl := rfl
@[simp] theorem setPair_IX_main (v : Word) : (s.setPair .IX v).main = s.main := rfl
@[simp] theorem setPair_IX_ixh (v : Word) : (s.setPair .IX v).ixh = hiByte v := rfl
@[simp] theorem setPair_IX_ixl (v : Word) : (s.setPair .IX v).ixl = loByte v := rfl

/-! ### Registers and pairs read across the updates -/

@[simp] theorem setReg_reg (r r' : Reg) (v : Byte) :
    (s.setReg r v).reg r' = if r' = r then v else s.reg r' := by
  cases r <;> cases r' <;> rfl

theorem setReg_self (r : Reg) : s.setReg r (s.reg r) = s := by cases r <;> rfl

@[simp] theorem setF_reg (v : Byte) (r : Reg) : (s.setF v).reg r = s.reg r := by cases r <;> rfl

@[simp] theorem writeByte_reg (a : Word) (v : Byte) (r : Reg) : (s.writeByte a v).reg r = s.reg r := rfl
@[simp] theorem retire_reg (fmt : Format) (cost : Nat) (r : Reg) : (s.retire fmt cost).reg r = s.reg r := rfl
@[simp] theorem jump_reg (target : Word) (cost : Nat) (r : Reg) : (s.jump target cost).reg r = s.reg r := rfl
@[simp] theorem portWrite_reg (port : Word) (v : Byte) (r : Reg) : (s.portWrite port v).reg r = s.reg r := rfl
@[simp] theorem portRead_reg (port : Word) (v : Byte) (r : Reg) : (s.portRead port v).reg r = s.reg r := rfl
@[simp] theorem recordStop_reg (u : Unmapped) (r : Reg) : (s.recordStop u).reg r = s.reg r := rfl
@[simp] theorem run_reg (start : Word) (r : Reg) : (s.run start).reg r = s.reg r := rfl
@[simp] theorem writeByte_pair (a : Word) (v : Byte) (p : Pair) : (s.writeByte a v).pair p = s.pair p := by cases p <;> rfl
@[simp] theorem retire_pair (fmt : Format) (cost : Nat) (p : Pair) : (s.retire fmt cost).pair p = s.pair p := by cases p <;> rfl
@[simp] theorem jump_pair (target : Word) (cost : Nat) (p : Pair) : (s.jump target cost).pair p = s.pair p := by cases p <;> rfl
@[simp] theorem portWrite_pair (port : Word) (v : Byte) (p : Pair) : (s.portWrite port v).pair p = s.pair p := by cases p <;> rfl
@[simp] theorem portRead_pair (port : Word) (v : Byte) (p : Pair) : (s.portRead port v).pair p = s.pair p := by cases p <;> rfl
@[simp] theorem recordStop_pair (u : Unmapped) (p : Pair) : (s.recordStop u).pair p = s.pair p := by cases p <;> rfl
@[simp] theorem run_pair (start : Word) (p : Pair) : (s.run start).pair p = s.pair p := by cases p <;> rfl
@[simp] theorem writeByte_flag (a : Word) (v : Byte) (fl : Flag) : (s.writeByte a v).flag fl = s.flag fl := rfl
@[simp] theorem retire_flag (fmt : Format) (cost : Nat) (fl : Flag) : (s.retire fmt cost).flag fl = s.flag fl := rfl
@[simp] theorem jump_flag (target : Word) (cost : Nat) (fl : Flag) : (s.jump target cost).flag fl = s.flag fl := rfl
@[simp] theorem portWrite_flag (port : Word) (v : Byte) (fl : Flag) : (s.portWrite port v).flag fl = s.flag fl := rfl
@[simp] theorem portRead_flag (port : Word) (v : Byte) (fl : Flag) : (s.portRead port v).flag fl = s.flag fl := rfl
@[simp] theorem recordStop_flag (u : Unmapped) (fl : Flag) : (s.recordStop u).flag fl = s.flag fl := rfl
@[simp] theorem run_flag (start : Word) (fl : Flag) : (s.run start).flag fl = s.flag fl := rfl
@[simp] theorem setReg_flag (r : Reg) (v : Byte) (fl : Flag) : (s.setReg r v).flag fl = s.flag fl := by
  cases r <;> rfl
@[simp] theorem setF_flag (v : Byte) (fl : Flag) : (s.setF v).flag fl = fl.get v := rfl
@[simp] theorem setF_pair (v : Byte) (p : Pair) (h : p ≠ .AF) : (s.setF v).pair p = s.pair p := by
  cases p <;> first | rfl | exact absurd rfl h
@[simp] theorem setReg_pair_IX (r : Reg) (v : Byte) : (s.setReg r v).pair .IX = s.pair .IX := rfl

/-! ### Bytes read across the updates that leave memory alone -/

@[simp] theorem setReg_readByte (r : Reg) (v : Byte) (a : Word) : (s.setReg r v).readByte a = s.readByte a := rfl
@[simp] theorem setF_readByte (v : Byte) (a : Word) : (s.setF v).readByte a = s.readByte a := rfl
@[simp] theorem retire_readByte (fmt : Format) (cost : Nat) (a : Word) : (s.retire fmt cost).readByte a = s.readByte a := rfl
@[simp] theorem jump_readByte (target : Word) (cost : Nat) (a : Word) : (s.jump target cost).readByte a = s.readByte a := rfl
@[simp] theorem portWrite_readByte (port : Word) (v : Byte) (a : Word) : (s.portWrite port v).readByte a = s.readByte a := rfl
@[simp] theorem portRead_readByte (port : Word) (v : Byte) (a : Word) : (s.portRead port v).readByte a = s.readByte a := rfl
@[simp] theorem recordStop_readByte (u : Unmapped) (a : Word) : (s.recordStop u).readByte a = s.readByte a := rfl
@[simp] theorem run_readByte (start : Word) (a : Word) : (s.run start).readByte a = s.readByte a := rfl
@[simp] theorem setPair_readByte (p : Pair) (v : Word) (a : Word) :
    (s.setPair p v).readByte a = s.readByte a := by cases p <;> rfl

end State

end Sys2Proof.Machine
end

