-- ==== Sys2Proof/Laws/Memory.lean ====
section
/-! SUPPORT. The laws of memory: a read after a write, and that every memory operation keeps the canonical form. -/

namespace Sys2Proof.Machine

/-! ### Lists of cells -/

theorem Memory.read_erase_same (fill : Byte) (a : Nat) (m : List Host.Cell) :
    Memory.read fill a (Memory.erase a m) = fill := by
  induction m with
  | nil => rfl
  | cons c m ih =>
    by_cases h : c.1 = a
    · simpa [Memory.erase, h] using ih
    · have : Memory.erase a (c :: m) = c :: Memory.erase a m := by simp [Memory.erase, h]
      simp [this, Memory.read, h, ih]

theorem Memory.read_erase_other (fill : Byte) {a b : Nat} (hab : b ≠ a) (m : List Host.Cell) :
    Memory.read fill b (Memory.erase a m) = Memory.read fill b m := by
  induction m with
  | nil => rfl
  | cons c m ih =>
    by_cases h : c.1 = a
    · have : Memory.erase a (c :: m) = Memory.erase a m := by simp [Memory.erase, h]
      rw [this, ih]
      simp [Memory.read, h, Ne.symm hab]
    · have : Memory.erase a (c :: m) = c :: Memory.erase a m := by simp [Memory.erase, h]
      by_cases hb : c.1 = b <;> simp [this, Memory.read, hb, ih]

theorem Memory.read_insert_same (fill : Byte) (a : Nat) (v : Byte) (m : List Host.Cell)
    (h : ∀ c ∈ m, c.1 ≠ a) : Memory.read fill a (Memory.insert (a, v) m) = v := by
  induction m with
  | nil => simp [Memory.insert, Memory.read]
  | cons c m ih =>
    have hc : c.1 ≠ a := h c (by simp)
    have hm := ih fun d hd => h d (by simp [hd])
    by_cases hlt : a < c.1 <;> simp [Memory.insert, Memory.read, hlt, hc, hm]

theorem Memory.read_insert_other (fill : Byte) {a b : Nat} (hab : b ≠ a) (v : Byte) (m : List Host.Cell) :
    Memory.read fill b (Memory.insert (a, v) m) = Memory.read fill b m := by
  induction m with
  | nil => simp [Memory.insert, Memory.read, Ne.symm hab]
  | cons c m ih =>
    by_cases hlt : a < c.1
    · simp [Memory.insert, Memory.read, hlt, Ne.symm hab]
    · simp [Memory.insert, Memory.read, hlt, ih]

theorem Memory.mem_erase {a : Nat} {c : Host.Cell} {m : List Host.Cell} (h : c ∈ Memory.erase a m) :
    c ∈ m ∧ c.1 ≠ a := by simpa [Memory.erase] using h

/-- A read after a write, at every address, on every list of cells. -/
theorem Memory.read_write (fill : Byte) (a b : Nat) (v : Byte) (m : List Host.Cell) :
    Memory.read fill b (Memory.write fill a v m) = if b = a then v else Memory.read fill b m := by
  by_cases hab : b = a
  · subst hab
    by_cases hv : v = fill
    · simp [Memory.write, hv, Memory.read_erase_same]
    · have := Memory.read_insert_same fill b v (Memory.erase b m) fun c hc => (Memory.mem_erase hc).2
      simp [Memory.write, hv, this]
  · by_cases hv : v = fill <;>
      simp [Memory.write, hv, hab, Memory.read_erase_other fill hab, Memory.read_insert_other fill hab]

theorem Memory.mem_insert {c d : Host.Cell} {m : List Host.Cell} (h : d ∈ Memory.insert c m) :
    d = c ∨ d ∈ m := by
  induction m with
  | nil => simpa [Memory.insert] using h
  | cons e m ih =>
    by_cases hlt : c.1 < e.1
    · simpa [Memory.insert, hlt] using h
    · simp only [Memory.insert, hlt, if_false, List.mem_cons] at h
      rcases h with h | h
      · simp [h]
      · rcases ih h with h | h <;> simp [h]

theorem Memory.pairwise_insert {c : Host.Cell} {m : List Host.Cell} (hne : ∀ d ∈ m, d.1 ≠ c.1)
    (hm : m.Pairwise fun c d => c.1 < d.1) :
    (Memory.insert c m).Pairwise fun c d => c.1 < d.1 := by
  induction m with
  | nil => simp [Memory.insert]
  | cons e m ih =>
    obtain ⟨he, hm'⟩ := List.pairwise_cons.mp hm
    by_cases hlt : c.1 < e.1
    · simp only [Memory.insert, hlt, if_true, List.pairwise_cons]
      refine ⟨fun d hd => ?_, he, hm'⟩
      rcases List.mem_cons.mp hd with rfl | hd
      · exact hlt
      · exact lt_trans hlt (he d hd)
    · simp only [Memory.insert, hlt, if_false, List.pairwise_cons]
      refine ⟨fun d hd => ?_, ih (fun d hd => hne d (by simp [hd])) hm'⟩
      rcases Memory.mem_insert hd with rfl | hd
      · have := hne e (by simp)
        omega
      · exact he d hd

theorem Memory.wf_erase {fill : Byte} {m : List Host.Cell} (a : Nat) (h : Memory.wf fill m) :
    Memory.wf fill (Memory.erase a m) :=
  ⟨h.1.filter _, fun c hc => h.2 c (Memory.mem_erase hc).1⟩

/-- A write keeps the canonical form. -/
theorem Memory.wf_write {fill : Byte} {m : List Host.Cell} {a : Nat} (ha : a < 65536) (v : Byte)
    (h : Memory.wf fill m) : Memory.wf fill (Memory.write fill a v m) := by
  have he := Memory.wf_erase a h
  by_cases hv : v = fill
  · simpa [Memory.write, hv] using he
  · simp only [Memory.write, hv, if_false]
    refine ⟨Memory.pairwise_insert (fun d hd => (Memory.mem_erase hd).2) he.1, fun c hc => ?_⟩
    rcases Memory.mem_insert hc with rfl | hc
    · exact ⟨ha, hv⟩
    · exact he.2 c hc

/-! ### Memory of a state -/

namespace State

/-- `MemRead` after `MemWrite` (`20_memory.md` rules R51, R52, R63). -/
@[simp] theorem writeByte_readByte (s : State) (a b : Word) (v : Byte) :
    (s.writeByte a v).readByte b = if b = a then v else s.readByte b := by
  simp [readByte, Memory.read_write, BitVec.toNat_inj]

theorem wf_writeByte {s : State} (a : Word) (v : Byte) (h : Memory.wf s.cfg.memFill s.mem) :
    Memory.wf s.cfg.memFill (s.writeByte a v).mem := Memory.wf_write a.isLt v h

@[simp] theorem placeBytes_cfg (s : State) (a : Word) (bs : List Byte) : (s.placeBytes a bs).cfg = s.cfg := by
  induction bs generalizing s a with
  | nil => rfl
  | cons b bs ih => exact ih (s.writeByte a b) (a + 1)

/-- Placement changes memory and nothing else. -/
theorem placeBytes_eq (s : State) (a : Word) (bs : List Byte) :
    s.placeBytes a bs = { s with mem := (s.placeBytes a bs).mem } := by
  induction bs generalizing s a with
  | nil => rfl
  | cons b bs ih => exact ih (s.writeByte a b) (a + 1)

theorem wf_placeBytes {s : State} (a : Word) (bs : List Byte) (h : Memory.wf s.cfg.memFill s.mem) :
    Memory.wf s.cfg.memFill (s.placeBytes a bs).mem := by
  induction bs generalizing s a with
  | nil => exact h
  | cons b bs ih => exact ih (a + 1) (wf_writeByte a b h)

/-- A placement that stays below the end of the space: each byte stands at its address, and every address outside the placed range
reads as before. -/
theorem placeBytes_readByte (s : State) (a : Word) (bs : List Byte) (h : a.toNat + bs.length ≤ 65536) :
    (∀ i, i < bs.length → (s.placeBytes a bs).readByte (a + BitVec.ofNat 16 i) = bs.getD i 0) ∧
    (∀ b : Word, (b.toNat < a.toNat ∨ a.toNat + bs.length ≤ b.toNat) →
      (s.placeBytes a bs).readByte b = s.readByte b) := by
  induction bs generalizing s a with
  | nil => simp [placeBytes]
  | cons x bs ih =>
    simp only [List.length_cons] at h ⊢
    by_cases he : bs = []
    · subst he
      simp only [placeBytes, writeByte_readByte]
      refine ⟨fun i hi => ?_, fun b hb => ?_⟩
      · have : i = 0 := by simpa using hi
        subst this
        simp
      · rw [if_neg]
        rintro rfl
        simp at hb
    · have hl : 0 < bs.length := List.length_pos_iff.2 he
      have ha : (a + 1).toNat = a.toNat + 1 := by bv_omega
      obtain ⟨h1, h2⟩ := ih (s.writeByte a x) (a + 1) (by omega)
      simp only [placeBytes]
      refine ⟨fun i hi => ?_, fun b hb => ?_⟩
      · cases i with
        | zero =>
          rw [show a + BitVec.ofNat 16 0 = a by simp, h2 _ (by omega)]
          simp
        | succ i =>
          rw [show a + BitVec.ofNat 16 (i + 1) = a + 1 + BitVec.ofNat 16 i by bv_omega, h1 _ (by omega)]
          simp
      · rw [h2 b (by omega), writeByte_readByte, if_neg]
        rintro rfl
        omega

/-- The memory of reset lists nothing, which is the canonical form of a memory of fill bytes. -/
theorem wf_reset : Memory.wf State.reset.cfg.memFill State.reset.mem := by
  constructor <;> simp [State.reset, State.resetWith]

end State

end Sys2Proof.Machine
end

