-- ==== Sys2Proof/Laws/Ops.lean ====
section
/-! SUPPORT. What each shared operation can do, said once: the stack primitives, the pairs, the block copy. -/

namespace Sys2Proof.Machine

namespace State

/-! ### Pairs -/

@[simp] theorem setPair_pair (s : State) (p : Pair) (v : Word) : (s.setPair p v).pair p = v := by
  cases p <;> simp [pair]

theorem setPair_pair_other (s : State) {p q : Pair} (v : Word) (h : q ≠ p) :
    (s.setPair p v).pair q = s.pair q := by
  cases p <;> cases q <;> first | rfl | exact absurd rfl h

/-- Writing a pair other than `AF` leaves the flags byte alone. -/
theorem setPair_flags (s : State) {p : Pair} (v : Word) (h : p ≠ .AF) :
    (s.setPair p v).main.f = s.main.f := by
  cases p <;> first | rfl | exact absurd rfl h

/-! ### The stack -/

/-- `Push16` as two writes at the addresses below `sp` (`42_stack.md` rule R150). -/
theorem push16_eq (s : State) (v : Word) :
    s.push16 v = { (s.writeByte (s.sp - 1) (hiByte v)).writeByte (s.sp - 2) (loByte v) with sp := s.sp - 2 } := by
  have h : s.sp - 1 - 1 = s.sp - 2 := by bv_omega
  simp only [push16, writeByte, h]

/-- All `Push16` does: `sp` and memory, nothing else. -/
theorem push16_frame (s : State) (v : Word) :
    s.push16 v = { s with sp := s.sp - 2, mem := (s.push16 v).mem } := by
  rw [push16_eq]; rfl

@[simp] theorem push16_sp (s : State) (v : Word) : (s.push16 v).sp = s.sp - 2 := by rw [push16_eq]
@[simp] theorem push16_main (s : State) (v : Word) : (s.push16 v).main = s.main := rfl
@[simp] theorem push16_shadow (s : State) (v : Word) : (s.push16 v).shadow = s.shadow := rfl
@[simp] theorem push16_ixh (s : State) (v : Word) : (s.push16 v).ixh = s.ixh := rfl
@[simp] theorem push16_ixl (s : State) (v : Word) : (s.push16 v).ixl = s.ixl := rfl
@[simp] theorem push16_iyh (s : State) (v : Word) : (s.push16 v).iyh = s.iyh := rfl
@[simp] theorem push16_iyl (s : State) (v : Word) : (s.push16 v).iyl = s.iyl := rfl
@[simp] theorem push16_pc (s : State) (v : Word) : (s.push16 v).pc = s.pc := rfl
@[simp] theorem push16_iff1 (s : State) (v : Word) : (s.push16 v).iff1 = s.iff1 := rfl
@[simp] theorem push16_iff2 (s : State) (v : Word) : (s.push16 v).iff2 = s.iff2 := rfl
@[simp] theorem push16_im (s : State) (v : Word) : (s.push16 v).im = s.im := rfl
@[simp] theorem push16_stop (s : State) (v : Word) : (s.push16 v).stop = s.stop := rfl
@[simp] theorem push16_ports (s : State) (v : Word) : (s.push16 v).ports = s.ports := rfl
@[simp] theorem push16_draws (s : State) (v : Word) : (s.push16 v).draws = s.draws := rfl
@[simp] theorem push16_answers (s : State) (v : Word) : (s.push16 v).answers = s.answers := rfl
@[simp] theorem push16_cycles (s : State) (v : Word) : (s.push16 v).cycles = s.cycles := rfl
@[simp] theorem push16_cfg (s : State) (v : Word) : (s.push16 v).cfg = s.cfg := rfl

@[simp] theorem push16_pair (s : State) (v : Word) (p : Pair) : (s.push16 v).pair p = s.pair p := by
  cases p <;> rfl

@[simp] theorem push16_reg (s : State) (v : Word) (r : Reg) : (s.push16 v).reg r = s.reg r := rfl

@[simp] theorem push16_flag (s : State) (v : Word) (fl : Flag) : (s.push16 v).flag fl = s.flag fl := rfl

/-- The two cells of a push are different ones. -/
theorem sp_sub_one_ne (sp : Word) : sp - 1 ≠ sp - 2 := by bv_omega

/-- The bytes after `Push16`: the high byte at `sp - 1`, the low byte at `sp - 2`, every other as before. -/
theorem push16_readByte (s : State) (v : Word) (a : Word) :
    (s.push16 v).readByte a =
      if a = s.sp - 2 then loByte v else if a = s.sp - 1 then hiByte v else s.readByte a := by
  rw [push16_eq]
  show ((s.writeByte (s.sp - 1) (hiByte v)).writeByte (s.sp - 2) (loByte v)).readByte a = _
  simp

theorem wf_push16 {s : State} (v : Word) (h : Memory.wf s.cfg.memFill s.mem) :
    Memory.wf s.cfg.memFill (s.push16 v).mem := by
  rw [push16_eq]
  exact wf_writeByte _ _ (wf_writeByte _ _ h)

/-- `Pop16`: the value is the high byte at `sp + 1` over the low byte at `sp`; only `sp` changes. -/
theorem pop16_eq (s : State) :
    s.pop16 = (join (s.readByte (s.sp + 1)) (s.readByte s.sp), { s with sp := s.sp + 2 }) := by
  have h : s.sp + 1 + 1 = s.sp + 2 := by bv_omega
  simp only [pop16, readByte, h]

/-- `Pop16` after `Push16` returns the value pushed (`42_stack.md` rule R150). -/
theorem push16_pop16 (s : State) (v : Word) : (s.push16 v).pop16.1 = v := by
  have hsp : (s.push16 v).sp = s.sp - 2 := by rw [push16_frame]
  have h1 : s.sp - 2 + 1 = s.sp - 1 := by bv_omega
  have h2 : s.sp - 1 ≠ s.sp - 2 := by bv_omega
  simp only [pop16_eq, hsp, push16_readByte, h1, if_neg h2, if_true, join_hi_lo]

/-! ### The block copy -/

/-- All one pass of `LDIR` does: one byte stored, three pairs moved (`47_block_io_system.md` rule R220). -/
theorem copyOne_frame (s : State) :
    s.copyOne = { s with main := s.copyOne.main, mem := s.copyOne.mem } := rfl

theorem copyOne_readByte (s : State) (a : Word) :
    s.copyOne.readByte a = if a = s.pair .DE then s.readByte (s.pair .HL) else s.readByte a := by
  simp [copyOne]

theorem copyOne_BC (s : State) : s.copyOne.pair .BC = s.pair .BC - 1 := by
  simp [copyOne, setPair_pair_other]

theorem copyOne_DE (s : State) : s.copyOne.pair .DE = s.pair .DE + 1 := by
  simp [copyOne, setPair_pair_other]

theorem copyOne_HL (s : State) : s.copyOne.pair .HL = s.pair .HL + 1 := by
  simp [copyOne, setPair_pair_other]

theorem copyOne_A (s : State) : s.copyOne.main.a = s.main.a := rfl

theorem copyOne_F (s : State) : s.copyOne.main.f = s.main.f := rfl

theorem wf_copyOne {s : State} (h : Memory.wf s.cfg.memFill s.mem) :
    Memory.wf s.cfg.memFill s.copyOne.mem := wf_writeByte _ _ h

/-- A property one pass keeps is kept by any number of passes. -/
theorem copyOne_iterate_keeps {p : State → Prop} (hp : ∀ s, p s → p s.copyOne) (n : Nat) (s : State) (h : p s) :
    p (copyOne^[n] s) := by
  induction n generalizing s with
  | zero => exact h
  | succ n ih => exact ih s.copyOne (hp s h)

/-- All `n` passes do to the three pairs. -/
theorem copyOne_iterate_pairs (n : Nat) (s : State) :
    (copyOne^[n] s).pair .BC = s.pair .BC - BitVec.ofNat 16 n ∧
    (copyOne^[n] s).pair .DE = s.pair .DE + BitVec.ofNat 16 n ∧
    (copyOne^[n] s).pair .HL = s.pair .HL + BitVec.ofNat 16 n := by
  induction n generalizing s with
  | zero => simp
  | succ n ih =>
    obtain ⟨h1, h2, h3⟩ := ih s.copyOne
    rw [copyOne_BC] at h1
    rw [copyOne_DE] at h2
    rw [copyOne_HL] at h3
    have hn : BitVec.ofNat 16 (n + 1) = BitVec.ofNat 16 n + 1 := by bv_omega
    refine ⟨?_, ?_, ?_⟩
    · rw [Function.iterate_succ_apply, h1, hn]; bv_omega
    · rw [Function.iterate_succ_apply, h2, hn]; bv_omega
    · rw [Function.iterate_succ_apply, h3, hn]; bv_omega

/-- The passes change the main bank and memory, and nothing else. -/
theorem copyOne_iterate_frame (n : Nat) (s : State) :
    copyOne^[n] s = { s with main := (copyOne^[n] s).main, mem := (copyOne^[n] s).mem } := by
  induction n generalizing s with
  | zero => rfl
  | succ n ih => rw [Function.iterate_succ_apply, ih, copyOne_frame]

/-- The passes leave `A` and `F` alone. -/
theorem copyOne_iterate_AF (n : Nat) (s : State) :
    (copyOne^[n] s).main.a = s.main.a ∧ (copyOne^[n] s).main.f = s.main.f := by
  induction n generalizing s with
  | zero => exact ⟨rfl, rfl⟩
  | succ n ih => exact ih s.copyOne

/-- The bytes of memory after `n` passes. -/
theorem copyOne_iterate_readByte (n : Nat) (s : State) (a : Word) :
    (copyOne^[n] s).readByte a = copyBytes s.readByte (s.pair .HL) (s.pair .DE) n a := by
  induction n generalizing a with
  | zero => rfl
  | succ n ih =>
    obtain ⟨_, h2, h3⟩ := copyOne_iterate_pairs n s
    rw [Function.iterate_succ_apply', copyOne_readByte, h2, h3]
    simp only [copyBytes, ih]

/-- The passes commute with other values in the registers no instruction reads (`10_state.md` rules R32 to R34). -/
theorem copyOne_iterate_withUnread (k : Nat) (s : State) (f1 f2 : Bool) (m : IntMode) (yh yl : Byte) (n : Nat) :
    copyOne^[k] (s.withUnread f1 f2 m yh yl n) = (copyOne^[k] s).withUnread f1 f2 m yh yl n := by
  induction k generalizing s with
  | zero => rfl
  | succ k ih => exact ih s.copyOne

end State

/-- The loop of `LDIR` makes exactly `blockCount BC` passes, and counts all but the first as repeats
(`47_block_io_system.md` rule R220). -/
theorem copyLoop_eq (fuel k : Nat) (s : State) (h : blockCount (s.pair .BC) ≤ fuel) :
    copyLoop fuel k s = (State.copyOne^[blockCount (s.pair .BC)] s, k + (blockCount (s.pair .BC) - 1)) := by
  induction fuel generalizing k s with
  | zero =>
    exfalso
    unfold blockCount at h
    split at h
    · omega
    · rename_i hb
      apply hb
      apply BitVec.eq_of_toNat_eq
      simpa using h
  | succ fuel ih =>
    have hbc := State.copyOne_BC s
    by_cases h1 : s.pair .BC = 1
    · have hn : blockCount (s.pair .BC) = 1 := by rw [h1]; rfl
      have h0 : s.copyOne.pair .BC = 0 := by rw [hbc, h1]; rfl
      simp [copyLoop, h0, hn]
    · have hne : s.copyOne.pair .BC ≠ 0 := by
        rw [hbc]; intro h2; apply h1; bv_omega
      have hcount : blockCount (s.pair .BC) = blockCount (s.copyOne.pair .BC) + 1 := by
        rw [hbc] at hne ⊢
        unfold blockCount
        rw [if_neg hne]
        split
        · rename_i hz; rw [hz]; rfl
        · rename_i hz
          generalize s.pair .BC = b at *
          bv_omega
      have := ih (k + 1) s.copyOne (by omega)
      have hpos : 1 ≤ blockCount (s.copyOne.pair .BC) := by
        unfold blockCount
        rw [if_neg hne]
        generalize s.copyOne.pair .BC = b at *
        bv_omega
      simp only [copyLoop, hne, if_false, this, hcount, Function.iterate_succ_apply]
      congr 1
      omega

theorem blockCount_le (bc : Word) : blockCount bc ≤ 65536 := by
  unfold blockCount
  split
  · exact Nat.le_refl _
  · have := bc.isLt
    omega

/-- A copy of at most 65536 bytes leaves every address outside the destination range alone. -/
theorem copyBytes_outside (read : Word → Byte) (src dst : Word) (n : Nat) (hn : n ≤ 65536) (a : Word)
    (h : ¬ (a - dst).toNat < n) : copyBytes read src dst n a = read a := by
  induction n with
  | zero => rfl
  | succ n ih =>
    simp only [copyBytes]
    rw [if_neg, ih (by omega) (by omega)]
    intro e
    apply h
    subst e
    have : dst + BitVec.ofNat 16 n - dst = BitVec.ofNat 16 n := by bv_omega
    rw [this]
    simp
    omega

/-- `LDIR` as passes (`47_block_io_system.md` rule R220). -/
theorem copyBlock_eq (s : State) :
    copyBlock s = .next ((State.copyOne^[blockCount (s.pair .BC)] s).retire .P0
      (16 + 21 * (blockCount (s.pair .BC) - 1))) := by
  simp only [copyBlock, copyLoop_eq 65536 0 s (blockCount_le _), Nat.zero_add]

/-! ### Control transfers: all a conditional form can do -/

/-- A jump, taken or not, changes only `pc` and the reported cost (`45_control.md` rules R190, R192). -/
theorem jumpIf_frame {took : Bool} {target : Word} {fmt : Format} {cost : BranchCost} {s t : State}
    (h : jumpIf took target fmt cost s = .next t) : t = { s with pc := t.pc, cycles := t.cycles } := by
  cases took <;> cases h <;> rfl

/-- A conditional call is a call where it is taken, and where it is not only `pc` moves on (`45_control.md` rule R194). -/
theorem callIf_cases {took : Bool} {target : Word} {s t : State} (h : callIf took target s = .next t) :
    (took = true ∧ t = s.call target s.cfg.cycles.callCc.taken) ∨
    (took = false ∧ t = s.retire .B2 s.cfg.cycles.callCc.notTaken) := by
  cases took <;> cases h
  · exact .inr ⟨rfl, rfl⟩
  · exact .inl ⟨rfl, rfl⟩

/-- A conditional return is a return where it is taken, and where it is not only `pc` moves on (`45_control.md` rule R196). -/
theorem retIf_cases {took : Bool} {s t : State} (h : retIf took s = .next t) :
    (took = true ∧ t = s.ret s.cfg.cycles.retCc.taken) ∨
    (took = false ∧ t = s.retire .B0 s.cfg.cycles.retCc.notTaken) := by
  cases took <;> cases h
  · exact .inr ⟨rfl, rfl⟩
  · exact .inl ⟨rfl, rfl⟩

/-- All a return does: `pc` from the two bytes at `sp`, and `sp` (`45_control.md` rule R195). -/
theorem State.ret_eq (s : State) (cost : Nat) :
    s.ret cost =
      { s with pc := join (s.readByte (s.sp + 1)) (s.readByte s.sp), sp := s.sp + 2, cycles := cost } := by
  simp only [State.ret, State.pop16_eq]
  rfl

end Sys2Proof.Machine
end

