-- ==== Sys2Proof/Laws/PerInstr.lean ====
section
/-! SUPPORT. Statements made of every instruction, one lemma per constructor. -/

namespace Sys2Proof.Laws.WellFormed

/-- The instruction's bytes are well formed: its opcode is mapped in its namespace by the field patterns of rule R89, and it carries
the operand bytes that opcode declares (rules R85, R95). -/
def Statement (i : Instr) : Prop := i.wf = true

theorem ld_BC_nn (o1 o2 : Byte) : Statement (.ld_BC_nn o1 o2) := Raw.wf_of rfl
theorem ld_iBC_A : Statement (.ld_iBC_A) := Raw.wf_of rfl
theorem inc_BC : Statement (.inc_BC) := Raw.wf_of rfl
theorem inc_B : Statement (.inc_B) := Raw.wf_of rfl
theorem dec_B : Statement (.dec_B) := Raw.wf_of rfl
theorem ld_B_n (o1 : Byte) : Statement (.ld_B_n o1) := Raw.wf_of rfl
theorem rlca : Statement (.rlca) := Raw.wf_of rfl
theorem ex_AF : Statement (.ex_AF) := Raw.wf_of rfl
theorem add_HL_BC : Statement (.add_HL_BC) := Raw.wf_of rfl
theorem ld_A_iBC : Statement (.ld_A_iBC) := Raw.wf_of rfl
theorem dec_BC : Statement (.dec_BC) := Raw.wf_of rfl
theorem inc_C : Statement (.inc_C) := Raw.wf_of rfl
theorem dec_C : Statement (.dec_C) := Raw.wf_of rfl
theorem ld_C_n (o1 : Byte) : Statement (.ld_C_n o1) := Raw.wf_of rfl
theorem djnz_e (o1 : Byte) : Statement (.djnz_e o1) := Raw.wf_of rfl
theorem ld_DE_nn (o1 o2 : Byte) : Statement (.ld_DE_nn o1 o2) := Raw.wf_of rfl
theorem ld_iDE_A : Statement (.ld_iDE_A) := Raw.wf_of rfl
theorem inc_DE : Statement (.inc_DE) := Raw.wf_of rfl
theorem inc_D : Statement (.inc_D) := Raw.wf_of rfl
theorem dec_D : Statement (.dec_D) := Raw.wf_of rfl
theorem ld_D_n (o1 : Byte) : Statement (.ld_D_n o1) := Raw.wf_of rfl
theorem jr_e (o1 : Byte) : Statement (.jr_e o1) := Raw.wf_of rfl
theorem add_HL_DE : Statement (.add_HL_DE) := Raw.wf_of rfl
theorem ld_A_iDE : Statement (.ld_A_iDE) := Raw.wf_of rfl
theorem dec_DE : Statement (.dec_DE) := Raw.wf_of rfl
theorem inc_E : Statement (.inc_E) := Raw.wf_of rfl
theorem dec_E : Statement (.dec_E) := Raw.wf_of rfl
theorem ld_E_n (o1 : Byte) : Statement (.ld_E_n o1) := Raw.wf_of rfl
theorem jr_NZ_e (o1 : Byte) : Statement (.jr_NZ_e o1) := Raw.wf_of rfl
theorem ld_HL_nn (o1 o2 : Byte) : Statement (.ld_HL_nn o1 o2) := Raw.wf_of rfl
theorem ld_inn_HL (o1 o2 : Byte) : Statement (.ld_inn_HL o1 o2) := Raw.wf_of rfl
theorem inc_HL : Statement (.inc_HL) := Raw.wf_of rfl
theorem inc_H : Statement (.inc_H) := Raw.wf_of rfl
theorem dec_H : Statement (.dec_H) := Raw.wf_of rfl
theorem ld_H_n (o1 : Byte) : Statement (.ld_H_n o1) := Raw.wf_of rfl
theorem jr_Z_e (o1 : Byte) : Statement (.jr_Z_e o1) := Raw.wf_of rfl
theorem add_HL_HL : Statement (.add_HL_HL) := Raw.wf_of rfl
theorem ld_HL_inn (o1 o2 : Byte) : Statement (.ld_HL_inn o1 o2) := Raw.wf_of rfl
theorem dec_HL : Statement (.dec_HL) := Raw.wf_of rfl
theorem inc_L : Statement (.inc_L) := Raw.wf_of rfl
theorem dec_L : Statement (.dec_L) := Raw.wf_of rfl
theorem ld_L_n (o1 : Byte) : Statement (.ld_L_n o1) := Raw.wf_of rfl
theorem jr_NC_e (o1 : Byte) : Statement (.jr_NC_e o1) := Raw.wf_of rfl
theorem ld_inn_A (o1 o2 : Byte) : Statement (.ld_inn_A o1 o2) := Raw.wf_of rfl
theorem jr_C_e (o1 : Byte) : Statement (.jr_C_e o1) := Raw.wf_of rfl
theorem inc_A : Statement (.inc_A) := Raw.wf_of rfl
theorem dec_A : Statement (.dec_A) := Raw.wf_of rfl
theorem ld_A_n (o1 : Byte) : Statement (.ld_A_n o1) := Raw.wf_of rfl
theorem ld_B_B : Statement (.ld_B_B) := Raw.wf_of rfl
theorem ld_B_C : Statement (.ld_B_C) := Raw.wf_of rfl
theorem ld_B_D : Statement (.ld_B_D) := Raw.wf_of rfl
theorem ld_B_E : Statement (.ld_B_E) := Raw.wf_of rfl
theorem ld_B_H : Statement (.ld_B_H) := Raw.wf_of rfl
theorem ld_B_L : Statement (.ld_B_L) := Raw.wf_of rfl
theorem ld_B_iHL : Statement (.ld_B_iHL) := Raw.wf_of rfl
theorem ld_B_A : Statement (.ld_B_A) := Raw.wf_of rfl
theorem ld_C_B : Statement (.ld_C_B) := Raw.wf_of rfl
theorem ld_C_C : Statement (.ld_C_C) := Raw.wf_of rfl
theorem ld_C_D : Statement (.ld_C_D) := Raw.wf_of rfl
theorem ld_C_E : Statement (.ld_C_E) := Raw.wf_of rfl
theorem ld_C_H : Statement (.ld_C_H) := Raw.wf_of rfl
theorem ld_C_L : Statement (.ld_C_L) := Raw.wf_of rfl
theorem ld_C_iHL : Statement (.ld_C_iHL) := Raw.wf_of rfl
theorem ld_C_A : Statement (.ld_C_A) := Raw.wf_of rfl
theorem ld_D_B : Statement (.ld_D_B) := Raw.wf_of rfl
theorem ld_D_C : Statement (.ld_D_C) := Raw.wf_of rfl
theorem ld_D_D : Statement (.ld_D_D) := Raw.wf_of rfl
theorem ld_D_E : Statement (.ld_D_E) := Raw.wf_of rfl
theorem ld_D_H : Statement (.ld_D_H) := Raw.wf_of rfl
theorem ld_D_L : Statement (.ld_D_L) := Raw.wf_of rfl
theorem ld_D_iHL : Statement (.ld_D_iHL) := Raw.wf_of rfl
theorem ld_D_A : Statement (.ld_D_A) := Raw.wf_of rfl
theorem ld_E_B : Statement (.ld_E_B) := Raw.wf_of rfl
theorem ld_E_C : Statement (.ld_E_C) := Raw.wf_of rfl
theorem ld_E_D : Statement (.ld_E_D) := Raw.wf_of rfl
theorem ld_E_E : Statement (.ld_E_E) := Raw.wf_of rfl
theorem ld_E_H : Statement (.ld_E_H) := Raw.wf_of rfl
theorem ld_E_L : Statement (.ld_E_L) := Raw.wf_of rfl
theorem ld_E_iHL : Statement (.ld_E_iHL) := Raw.wf_of rfl
theorem ld_E_A : Statement (.ld_E_A) := Raw.wf_of rfl
theorem ld_H_B : Statement (.ld_H_B) := Raw.wf_of rfl
theorem ld_H_C : Statement (.ld_H_C) := Raw.wf_of rfl
theorem ld_H_D : Statement (.ld_H_D) := Raw.wf_of rfl
theorem ld_H_E : Statement (.ld_H_E) := Raw.wf_of rfl
theorem ld_H_H : Statement (.ld_H_H) := Raw.wf_of rfl
theorem ld_H_L : Statement (.ld_H_L) := Raw.wf_of rfl
theorem ld_H_iHL : Statement (.ld_H_iHL) := Raw.wf_of rfl
theorem ld_H_A : Statement (.ld_H_A) := Raw.wf_of rfl
theorem ld_L_B : Statement (.ld_L_B) := Raw.wf_of rfl
theorem ld_L_C : Statement (.ld_L_C) := Raw.wf_of rfl
theorem ld_L_D : Statement (.ld_L_D) := Raw.wf_of rfl
theorem ld_L_E : Statement (.ld_L_E) := Raw.wf_of rfl
theorem ld_L_H : Statement (.ld_L_H) := Raw.wf_of rfl
theorem ld_L_L : Statement (.ld_L_L) := Raw.wf_of rfl
theorem ld_L_iHL : Statement (.ld_L_iHL) := Raw.wf_of rfl
theorem ld_L_A : Statement (.ld_L_A) := Raw.wf_of rfl
theorem ld_iHL_B : Statement (.ld_iHL_B) := Raw.wf_of rfl
theorem ld_iHL_C : Statement (.ld_iHL_C) := Raw.wf_of rfl
theorem ld_iHL_D : Statement (.ld_iHL_D) := Raw.wf_of rfl
theorem ld_iHL_E : Statement (.ld_iHL_E) := Raw.wf_of rfl
theorem ld_iHL_H : Statement (.ld_iHL_H) := Raw.wf_of rfl
theorem ld_iHL_L : Statement (.ld_iHL_L) := Raw.wf_of rfl
theorem ld_iHL_A : Statement (.ld_iHL_A) := Raw.wf_of rfl
theorem ld_A_B : Statement (.ld_A_B) := Raw.wf_of rfl
theorem ld_A_C : Statement (.ld_A_C) := Raw.wf_of rfl
theorem ld_A_D : Statement (.ld_A_D) := Raw.wf_of rfl
theorem ld_A_E : Statement (.ld_A_E) := Raw.wf_of rfl
theorem ld_A_H : Statement (.ld_A_H) := Raw.wf_of rfl
theorem ld_A_L : Statement (.ld_A_L) := Raw.wf_of rfl
theorem ld_A_iHL : Statement (.ld_A_iHL) := Raw.wf_of rfl
theorem ld_A_A : Statement (.ld_A_A) := Raw.wf_of rfl
theorem sub_B : Statement (.sub_B) := Raw.wf_of rfl
theorem sub_C : Statement (.sub_C) := Raw.wf_of rfl
theorem sub_D : Statement (.sub_D) := Raw.wf_of rfl
theorem sub_E : Statement (.sub_E) := Raw.wf_of rfl
theorem sub_H : Statement (.sub_H) := Raw.wf_of rfl
theorem sub_L : Statement (.sub_L) := Raw.wf_of rfl
theorem sub_A : Statement (.sub_A) := Raw.wf_of rfl
theorem sbc_A_B : Statement (.sbc_A_B) := Raw.wf_of rfl
theorem sbc_A_C : Statement (.sbc_A_C) := Raw.wf_of rfl
theorem sbc_A_D : Statement (.sbc_A_D) := Raw.wf_of rfl
theorem sbc_A_E : Statement (.sbc_A_E) := Raw.wf_of rfl
theorem sbc_A_H : Statement (.sbc_A_H) := Raw.wf_of rfl
theorem sbc_A_L : Statement (.sbc_A_L) := Raw.wf_of rfl
theorem sbc_A_A : Statement (.sbc_A_A) := Raw.wf_of rfl
theorem and_B : Statement (.and_B) := Raw.wf_of rfl
theorem and_C : Statement (.and_C) := Raw.wf_of rfl
theorem and_D : Statement (.and_D) := Raw.wf_of rfl
theorem and_E : Statement (.and_E) := Raw.wf_of rfl
theorem and_H : Statement (.and_H) := Raw.wf_of rfl
theorem and_L : Statement (.and_L) := Raw.wf_of rfl
theorem and_iHL : Statement (.and_iHL) := Raw.wf_of rfl
theorem and_A : Statement (.and_A) := Raw.wf_of rfl
theorem xor_B : Statement (.xor_B) := Raw.wf_of rfl
theorem xor_C : Statement (.xor_C) := Raw.wf_of rfl
theorem xor_D : Statement (.xor_D) := Raw.wf_of rfl
theorem xor_E : Statement (.xor_E) := Raw.wf_of rfl
theorem xor_H : Statement (.xor_H) := Raw.wf_of rfl
theorem xor_L : Statement (.xor_L) := Raw.wf_of rfl
theorem xor_iHL : Statement (.xor_iHL) := Raw.wf_of rfl
theorem xor_A : Statement (.xor_A) := Raw.wf_of rfl
theorem or_B : Statement (.or_B) := Raw.wf_of rfl
theorem or_C : Statement (.or_C) := Raw.wf_of rfl
theorem or_D : Statement (.or_D) := Raw.wf_of rfl
theorem or_E : Statement (.or_E) := Raw.wf_of rfl
theorem or_H : Statement (.or_H) := Raw.wf_of rfl
theorem or_L : Statement (.or_L) := Raw.wf_of rfl
theorem or_iHL : Statement (.or_iHL) := Raw.wf_of rfl
theorem or_A : Statement (.or_A) := Raw.wf_of rfl
theorem cp_B : Statement (.cp_B) := Raw.wf_of rfl
theorem cp_C : Statement (.cp_C) := Raw.wf_of rfl
theorem cp_D : Statement (.cp_D) := Raw.wf_of rfl
theorem cp_E : Statement (.cp_E) := Raw.wf_of rfl
theorem cp_H : Statement (.cp_H) := Raw.wf_of rfl
theorem cp_L : Statement (.cp_L) := Raw.wf_of rfl
theorem cp_A : Statement (.cp_A) := Raw.wf_of rfl
theorem ret_NZ : Statement (.ret_NZ) := Raw.wf_of rfl
theorem pop_BC : Statement (.pop_BC) := Raw.wf_of rfl
theorem jp_NZ_nn (o1 o2 : Byte) : Statement (.jp_NZ_nn o1 o2) := Raw.wf_of rfl
theorem jp_nn (o1 o2 : Byte) : Statement (.jp_nn o1 o2) := Raw.wf_of rfl
theorem call_NZ_nn (o1 o2 : Byte) : Statement (.call_NZ_nn o1 o2) := Raw.wf_of rfl
theorem push_BC : Statement (.push_BC) := Raw.wf_of rfl
theorem ret_Z : Statement (.ret_Z) := Raw.wf_of rfl
theorem ret : Statement (.ret) := Raw.wf_of rfl
theorem jp_Z_nn (o1 o2 : Byte) : Statement (.jp_Z_nn o1 o2) := Raw.wf_of rfl
theorem call_Z_nn (o1 o2 : Byte) : Statement (.call_Z_nn o1 o2) := Raw.wf_of rfl
theorem call_nn (o1 o2 : Byte) : Statement (.call_nn o1 o2) := Raw.wf_of rfl
theorem ret_NC : Statement (.ret_NC) := Raw.wf_of rfl
theorem pop_DE : Statement (.pop_DE) := Raw.wf_of rfl
theorem jp_NC_nn (o1 o2 : Byte) : Statement (.jp_NC_nn o1 o2) := Raw.wf_of rfl
theorem call_NC_nn (o1 o2 : Byte) : Statement (.call_NC_nn o1 o2) := Raw.wf_of rfl
theorem push_DE : Statement (.push_DE) := Raw.wf_of rfl
theorem ret_C : Statement (.ret_C) := Raw.wf_of rfl
theorem exx : Statement (.exx) := Raw.wf_of rfl
theorem jp_C_nn (o1 o2 : Byte) : Statement (.jp_C_nn o1 o2) := Raw.wf_of rfl
theorem call_C_nn (o1 o2 : Byte) : Statement (.call_C_nn o1 o2) := Raw.wf_of rfl
theorem ret_PO : Statement (.ret_PO) := Raw.wf_of rfl
theorem pop_HL : Statement (.pop_HL) := Raw.wf_of rfl
theorem jp_PO_nn (o1 o2 : Byte) : Statement (.jp_PO_nn o1 o2) := Raw.wf_of rfl
theorem call_PO_nn (o1 o2 : Byte) : Statement (.call_PO_nn o1 o2) := Raw.wf_of rfl
theorem push_HL : Statement (.push_HL) := Raw.wf_of rfl
theorem ret_PE : Statement (.ret_PE) := Raw.wf_of rfl
theorem jp_PE_nn (o1 o2 : Byte) : Statement (.jp_PE_nn o1 o2) := Raw.wf_of rfl
theorem ex_DE_HL : Statement (.ex_DE_HL) := Raw.wf_of rfl
theorem call_PE_nn (o1 o2 : Byte) : Statement (.call_PE_nn o1 o2) := Raw.wf_of rfl
theorem ret_P : Statement (.ret_P) := Raw.wf_of rfl
theorem pop_AF : Statement (.pop_AF) := Raw.wf_of rfl
theorem jp_P_nn (o1 o2 : Byte) : Statement (.jp_P_nn o1 o2) := Raw.wf_of rfl
theorem di : Statement (.di) := Raw.wf_of rfl
theorem call_P_nn (o1 o2 : Byte) : Statement (.call_P_nn o1 o2) := Raw.wf_of rfl
theorem push_AF : Statement (.push_AF) := Raw.wf_of rfl
theorem ret_M : Statement (.ret_M) := Raw.wf_of rfl
theorem jp_M_nn (o1 o2 : Byte) : Statement (.jp_M_nn o1 o2) := Raw.wf_of rfl
theorem ei : Statement (.ei) := Raw.wf_of rfl
theorem call_M_nn (o1 o2 : Byte) : Statement (.call_M_nn o1 o2) := Raw.wf_of rfl
theorem cp_n (o1 : Byte) : Statement (.cp_n o1) := Raw.wf_of rfl
theorem out_iC_B : Statement (.out_iC_B) := Raw.wf_of rfl
theorem im_0 : Statement (.im_0) := Raw.wf_of rfl
theorem out_iC_C : Statement (.out_iC_C) := Raw.wf_of rfl
theorem out_iC_D : Statement (.out_iC_D) := Raw.wf_of rfl
theorem im_1 : Statement (.im_1) := Raw.wf_of rfl
theorem out_iC_E : Statement (.out_iC_E) := Raw.wf_of rfl
theorem im_2 : Statement (.im_2) := Raw.wf_of rfl
theorem out_iC_H : Statement (.out_iC_H) := Raw.wf_of rfl
theorem out_iC_L : Statement (.out_iC_L) := Raw.wf_of rfl
theorem in_A_iC : Statement (.in_A_iC) := Raw.wf_of rfl
theorem out_iC_A : Statement (.out_iC_A) := Raw.wf_of rfl
theorem ldir : Statement (.ldir) := Raw.wf_of rfl
theorem srl_B : Statement (.srl_B) := Raw.wf_of rfl
theorem srl_C : Statement (.srl_C) := Raw.wf_of rfl
theorem srl_D : Statement (.srl_D) := Raw.wf_of rfl
theorem srl_E : Statement (.srl_E) := Raw.wf_of rfl
theorem srl_H : Statement (.srl_H) := Raw.wf_of rfl
theorem srl_L : Statement (.srl_L) := Raw.wf_of rfl
theorem srl_A : Statement (.srl_A) := Raw.wf_of rfl
theorem add_IX_BC : Statement (.add_IX_BC) := Raw.wf_of rfl
theorem add_IX_DE : Statement (.add_IX_DE) := Raw.wf_of rfl
theorem ld_IX_nn (o1 o2 : Byte) : Statement (.ld_IX_nn o1 o2) := Raw.wf_of rfl
theorem ld_inn_IX (o1 o2 : Byte) : Statement (.ld_inn_IX o1 o2) := Raw.wf_of rfl
theorem inc_IX : Statement (.inc_IX) := Raw.wf_of rfl
theorem add_IX_IX : Statement (.add_IX_IX) := Raw.wf_of rfl
theorem ld_IX_inn (o1 o2 : Byte) : Statement (.ld_IX_inn o1 o2) := Raw.wf_of rfl
theorem dec_IX : Statement (.dec_IX) := Raw.wf_of rfl
theorem pop_IX : Statement (.pop_IX) := Raw.wf_of rfl
theorem push_IX : Statement (.push_IX) := Raw.wf_of rfl

end Sys2Proof.Laws.WellFormed
end

