-- ==== Sys2Proof/Tests/Slice0.lean ====
section
/-! SUPPORT. The model's own tests. Expected values come from outside the model: the words are the encoding lines of
`spec/opcode_table.json`, the vectors are those of `spec/95_test_vectors.md`, each under its own number there. The
witnesses at the end meet the hypotheses of the statements in Obligations.lean. -/

namespace Sys2Proof.Tests

open Sys2Proof Sys2Proof.Machine

/-! ### WellFormed refuses an ill-formed raw instruction, one per check -/

/-- 0x76 is unmapped in the basic namespace (`30_encoding.md` rule R95). -/
theorem test_wf_unmapped_opcode : Raw.mapped ⟨.basic, 0x76, []⟩ = false ∧ Raw.wf ⟨.basic, 0x76, []⟩ = false := by decide

/-- A prefix byte is no opcode, not even after a prefix (`30_encoding.md` rule R83). -/
theorem test_wf_prefix_after_prefix : Raw.mapped ⟨.index, 0xCB, []⟩ = false ∧ Raw.wf ⟨.index, 0xCB, []⟩ = false := by
  decide

/-- `LD HL,nn` takes two operand bytes (`30_encoding.md` rule R85). -/
theorem test_wf_operand_missing : Raw.shapeOk ⟨.basic, 0x21, [0x12]⟩ = false ∧ Raw.wf ⟨.basic, 0x21, [0x12]⟩ = false := by
  decide

/-- `INC B` takes none. -/
theorem test_wf_operand_too_many : Raw.shapeOk ⟨.basic, 0x04, [0x12]⟩ = false ∧ Raw.wf ⟨.basic, 0x04, [0x12]⟩ = false := by
  decide

/-- And it accepts what is well formed. -/
theorem test_wf_accepts : Raw.wf ⟨.basic, 0x21, [0x12, 0x34]⟩ = true ∧ Raw.wf ⟨.bit, 0x38, []⟩ = true := by decide

/-! ### Decoding: every row's word, bit by bit from its encoding line; the operand bytes are 0x12 and 0x34 -/

/-- Each word decodes to its instruction and nothing is left over. -/
def decodeAs (rows : List (List Byte × Instr)) : Bool :=
  rows.all fun r => decide (decode r.1 = .ok (r.2, []))

theorem test_decode_load : decodeAs [
    ([0b00000001, 0x12, 0x34], .ld_BC_nn 0x12 0x34), ([0b00000010], .ld_iBC_A), ([0b00000110, 0x12], .ld_B_n 0x12),
    ([0b00001010], .ld_A_iBC), ([0b00001110, 0x12], .ld_C_n 0x12), ([0b00010001, 0x12, 0x34], .ld_DE_nn 0x12 0x34),
    ([0b00010010], .ld_iDE_A), ([0b00010110, 0x12], .ld_D_n 0x12), ([0b00011010], .ld_A_iDE),
    ([0b00011110, 0x12], .ld_E_n 0x12), ([0b00100001, 0x12, 0x34], .ld_HL_nn 0x12 0x34),
    ([0b00100010, 0x12, 0x34], .ld_inn_HL 0x12 0x34), ([0b00100110, 0x12], .ld_H_n 0x12),
    ([0b00101010, 0x12, 0x34], .ld_HL_inn 0x12 0x34), ([0b00101110, 0x12], .ld_L_n 0x12),
    ([0b00110010, 0x12, 0x34], .ld_inn_A 0x12 0x34), ([0b00111110, 0x12], .ld_A_n 0x12), ([0b01000110], .ld_B_iHL),
    ([0b01001110], .ld_C_iHL), ([0b01010110], .ld_D_iHL), ([0b01011110], .ld_E_iHL), ([0b01100110], .ld_H_iHL),
    ([0b01101110], .ld_L_iHL), ([0b01110000], .ld_iHL_B), ([0b01110001], .ld_iHL_C), ([0b01110010], .ld_iHL_D),
    ([0b01110011], .ld_iHL_E), ([0b01110100], .ld_iHL_H), ([0b01110101], .ld_iHL_L), ([0b01110111], .ld_iHL_A),
    ([0b01111110], .ld_A_iHL)] = true := by
  decide

theorem test_decode_incdec_arith16 : decodeAs [
    ([0b00000011], .inc_BC), ([0b00000100], .inc_B), ([0b00000101], .dec_B), ([0b00001001], .add_HL_BC),
    ([0b00001011], .dec_BC), ([0b00001100], .inc_C), ([0b00001101], .dec_C), ([0b00010011], .inc_DE),
    ([0b00010100], .inc_D), ([0b00010101], .dec_D), ([0b00011001], .add_HL_DE), ([0b00011011], .dec_DE),
    ([0b00011100], .inc_E), ([0b00011101], .dec_E), ([0b00100011], .inc_HL), ([0b00100100], .inc_H),
    ([0b00100101], .dec_H), ([0b00101001], .add_HL_HL), ([0b00101011], .dec_HL), ([0b00101100], .inc_L),
    ([0b00101101], .dec_L), ([0b00111100], .inc_A), ([0b00111101], .dec_A)] = true := by
  decide

theorem test_decode_rotate_shift : decodeAs [
    ([0b00000111], .rlca), ([0b11001011, 0b00111000], .srl_B), ([0b11001011, 0b00111001], .srl_C),
    ([0b11001011, 0b00111010], .srl_D), ([0b11001011, 0b00111011], .srl_E), ([0b11001011, 0b00111100], .srl_H),
    ([0b11001011, 0b00111101], .srl_L), ([0b11001011, 0b00111111], .srl_A)] = true := by
  decide

theorem test_decode_exchange : decodeAs [
    ([0b00001000], .ex_AF), ([0b11011001], .exx), ([0b11101011], .ex_DE_HL)] = true := by
  decide

theorem test_decode_control : decodeAs [
    ([0b00010000, 0x12], .djnz_e 0x12), ([0b00011000, 0x12], .jr_e 0x12), ([0b00100000, 0x12], .jr_NZ_e 0x12),
    ([0b00101000, 0x12], .jr_Z_e 0x12), ([0b00110000, 0x12], .jr_NC_e 0x12), ([0b00111000, 0x12], .jr_C_e 0x12),
    ([0b11000000], .ret_NZ), ([0b11000010, 0x12, 0x34], .jp_NZ_nn 0x12 0x34),
    ([0b11000011, 0x12, 0x34], .jp_nn 0x12 0x34), ([0b11000100, 0x12, 0x34], .call_NZ_nn 0x12 0x34),
    ([0b11001000], .ret_Z), ([0b11001001], .ret), ([0b11001010, 0x12, 0x34], .jp_Z_nn 0x12 0x34),
    ([0b11001100, 0x12, 0x34], .call_Z_nn 0x12 0x34), ([0b11001101, 0x12, 0x34], .call_nn 0x12 0x34),
    ([0b11010000], .ret_NC), ([0b11010010, 0x12, 0x34], .jp_NC_nn 0x12 0x34),
    ([0b11010100, 0x12, 0x34], .call_NC_nn 0x12 0x34), ([0b11011000], .ret_C),
    ([0b11011010, 0x12, 0x34], .jp_C_nn 0x12 0x34), ([0b11011100, 0x12, 0x34], .call_C_nn 0x12 0x34),
    ([0b11100000], .ret_PO), ([0b11100010, 0x12, 0x34], .jp_PO_nn 0x12 0x34),
    ([0b11100100, 0x12, 0x34], .call_PO_nn 0x12 0x34), ([0b11101000], .ret_PE),
    ([0b11101010, 0x12, 0x34], .jp_PE_nn 0x12 0x34), ([0b11101100, 0x12, 0x34], .call_PE_nn 0x12 0x34),
    ([0b11110000], .ret_P), ([0b11110010, 0x12, 0x34], .jp_P_nn 0x12 0x34),
    ([0b11110100, 0x12, 0x34], .call_P_nn 0x12 0x34), ([0b11111000], .ret_M),
    ([0b11111010, 0x12, 0x34], .jp_M_nn 0x12 0x34), ([0b11111100, 0x12, 0x34], .call_M_nn 0x12 0x34)] = true := by
  decide

theorem test_decode_load_register_to_BCD : decodeAs [
    ([0b01000000], .ld_B_B), ([0b01000001], .ld_B_C), ([0b01000010], .ld_B_D), ([0b01000011], .ld_B_E),
    ([0b01000100], .ld_B_H), ([0b01000101], .ld_B_L), ([0b01000111], .ld_B_A), ([0b01001000], .ld_C_B),
    ([0b01001001], .ld_C_C), ([0b01001010], .ld_C_D), ([0b01001011], .ld_C_E), ([0b01001100], .ld_C_H),
    ([0b01001101], .ld_C_L), ([0b01001111], .ld_C_A), ([0b01010000], .ld_D_B), ([0b01010001], .ld_D_C),
    ([0b01010010], .ld_D_D), ([0b01010011], .ld_D_E), ([0b01010100], .ld_D_H), ([0b01010101], .ld_D_L),
    ([0b01010111], .ld_D_A)] = true := by
  decide

theorem test_decode_load_register_to_EHLA : decodeAs [
    ([0b01011000], .ld_E_B), ([0b01011001], .ld_E_C), ([0b01011010], .ld_E_D), ([0b01011011], .ld_E_E),
    ([0b01011100], .ld_E_H), ([0b01011101], .ld_E_L), ([0b01011111], .ld_E_A), ([0b01100000], .ld_H_B),
    ([0b01100001], .ld_H_C), ([0b01100010], .ld_H_D), ([0b01100011], .ld_H_E), ([0b01100100], .ld_H_H),
    ([0b01100101], .ld_H_L), ([0b01100111], .ld_H_A), ([0b01101000], .ld_L_B), ([0b01101001], .ld_L_C),
    ([0b01101010], .ld_L_D), ([0b01101011], .ld_L_E), ([0b01101100], .ld_L_H), ([0b01101101], .ld_L_L),
    ([0b01101111], .ld_L_A), ([0b01111000], .ld_A_B), ([0b01111001], .ld_A_C), ([0b01111010], .ld_A_D),
    ([0b01111011], .ld_A_E), ([0b01111100], .ld_A_H), ([0b01111101], .ld_A_L), ([0b01111111], .ld_A_A)] = true := by
  decide

theorem test_decode_accumulator : decodeAs [
    ([0b10010000], .sub_B), ([0b10010001], .sub_C), ([0b10010010], .sub_D), ([0b10010011], .sub_E),
    ([0b10010100], .sub_H), ([0b10010101], .sub_L), ([0b10010111], .sub_A), ([0b10011000], .sbc_A_B),
    ([0b10011001], .sbc_A_C), ([0b10011010], .sbc_A_D), ([0b10011011], .sbc_A_E), ([0b10011100], .sbc_A_H),
    ([0b10011101], .sbc_A_L), ([0b10011111], .sbc_A_A), ([0b10100000], .and_B), ([0b10100001], .and_C),
    ([0b10100010], .and_D), ([0b10100011], .and_E), ([0b10100100], .and_H), ([0b10100101], .and_L),
    ([0b10100110], .and_iHL), ([0b10100111], .and_A), ([0b10101000], .xor_B), ([0b10101001], .xor_C),
    ([0b10101010], .xor_D), ([0b10101011], .xor_E), ([0b10101100], .xor_H), ([0b10101101], .xor_L),
    ([0b10101110], .xor_iHL), ([0b10101111], .xor_A), ([0b10110000], .or_B), ([0b10110001], .or_C),
    ([0b10110010], .or_D), ([0b10110011], .or_E), ([0b10110100], .or_H), ([0b10110101], .or_L),
    ([0b10110110], .or_iHL), ([0b10110111], .or_A), ([0b10111000], .cp_B), ([0b10111001], .cp_C),
    ([0b10111010], .cp_D), ([0b10111011], .cp_E), ([0b10111100], .cp_H), ([0b10111101], .cp_L),
    ([0b10111111], .cp_A), ([0b11111110, 0x12], .cp_n 0x12)] = true := by
  decide

theorem test_decode_stack : decodeAs [
    ([0b11000001], .pop_BC), ([0b11000101], .push_BC), ([0b11010001], .pop_DE), ([0b11010101], .push_DE),
    ([0b11100001], .pop_HL), ([0b11100101], .push_HL), ([0b11110001], .pop_AF), ([0b11110101], .push_AF)] = true := by
  decide

theorem test_decode_block_io_system : decodeAs [
    ([0b11110011], .di), ([0b11111011], .ei), ([0b11101101, 0b01000001], .out_iC_B),
    ([0b11101101, 0b01000110], .im_0), ([0b11101101, 0b01001001], .out_iC_C), ([0b11101101, 0b01010001], .out_iC_D),
    ([0b11101101, 0b01010110], .im_1), ([0b11101101, 0b01011001], .out_iC_E), ([0b11101101, 0b01011110], .im_2),
    ([0b11101101, 0b01100001], .out_iC_H), ([0b11101101, 0b01101001], .out_iC_L),
    ([0b11101101, 0b01111000], .in_A_iC), ([0b11101101, 0b01111001], .out_iC_A), ([0b11101101, 0b10110000], .ldir)] = true := by
  decide

theorem test_decode_index : decodeAs [
    ([0b11011101, 0b00001001], .add_IX_BC), ([0b11011101, 0b00011001], .add_IX_DE),
    ([0b11011101, 0b00100001, 0x12, 0x34], .ld_IX_nn 0x12 0x34),
    ([0b11011101, 0b00100010, 0x12, 0x34], .ld_inn_IX 0x12 0x34), ([0b11011101, 0b00100011], .inc_IX),
    ([0b11011101, 0b00101001], .add_IX_IX), ([0b11011101, 0b00101010, 0x12, 0x34], .ld_IX_inn 0x12 0x34),
    ([0b11011101, 0b00101011], .dec_IX), ([0b11011101, 0b11100001], .pop_IX), ([0b11011101, 0b11100101], .push_IX)] = true := by
  decide

/-- The decoder on the opcode table's numbering, prefix in the high byte (log 8), and in the other order. -/
theorem test_table_word :
    decodeTableWord 8 0x04 = some .inc_B ∧ decodeTableWord 8 0x21 = some (.ld_HL_nn 0 0) ∧
    decodeTableWord 16 0xED41 = some .out_iC_B ∧ decodeTableWord 16 0x41ED = some .out_iC_B ∧
    decodeTableWord 16 0xDD21 = some (.ld_IX_nn 0 0) ∧ decodeTableWord 16 0xCB38 = some .srl_B ∧
    decodeTableWord 8 0x76 = none := by decide

/-- A program word placed by `withFetchWord` is what the first step after reset runs. -/
theorem test_first_step :
    step (State.reset.withFetchWord 8 0x04) = exec .inc_B (State.reset.withFetchWord 8 0x04) ∧
    step (State.reset.withFetchWord 16 0xED41) = exec .out_iC_B (State.reset.withFetchWord 16 0xED41) := by
  constructor <;> rfl

/-- A list that ends inside an instruction gives no instruction. -/
theorem test_decode_truncated :
    decode [] = .error .truncated ∧ decode [0xED] = .error .truncated ∧ decode [0x21, 0x12] = .error .truncated := by
  decide

/-! ### Vectors of `spec/95_test_vectors.md`: one step, every field of the state it ends in -/

/-- From reset with the listed differences and the bytes at `pc0`, one step ends in the start state with the listed
differences and no other (the reported cost only where the vector gives one). -/
def runsTo (pc0 : Word) (code : List Byte) (start finish : State → State) (pc : Word) (cost : Option Nat) : Bool :=
  let s : State := { (start .reset).placeBytes pc0 code with pc := pc0 }
  match step s with
  | .next t =>
    decide (t = { finish s with pc := pc, cycles := t.cycles }) &&
      (match cost with
      | none => true
      | some c => t.cycles == c)
  | _ => false

/-- The step is the fatal stop with this pair, and the state it leaves differs only in the record. -/
def stopsAt (code : List Byte) (ns : Namespace) (byte : Byte) : Bool :=
  let s : State := State.reset.placeBytes 0x0000 code
  match step s with
  | .fault f => decide (f = .unmappedOpcode ns byte) && decide (s.settle = { s with stop := some ⟨ns, byte⟩ })
  | _ => false

theorem test_vector_S2 : runsTo 0x0100 [0x04]
    (fun s => (s).setReg .B 0xFF)
    (fun s => ((s).setF 0x10).setReg .B 0x00) 0x0101 none = true := by decide

theorem test_vector_S3a : runsTo 0x0100 [0x07]
    (fun s => ((s).setReg .A 0x01).setF 0x01)
    (fun s => ((s).setReg .A 0x02).setF 0x00) 0x0101 none = true := by decide

theorem test_vector_S3b : runsTo 0x0100 [0x07]
    (fun s => (s).setReg .A 0x83)
    (fun s => ((s).setReg .A 0x07).setF 0x01) 0x0101 none = true := by decide

theorem test_vector_S4a : runsTo 0x0100 [0xC5]
    (fun s => (s).setPair .BC 0xABEF)
    (fun s => (({ (s).setF 0x00 with sp := 0xFFFD }).writeByte 0xFFFE 0xAB).writeByte 0xFFFD 0xEF) 0x0101 none = true := by decide

theorem test_vector_S5b : runsTo 0x0100 [0xC2, 0x12, 0x34]
    (fun s => (s).setF 0x40)
    (fun s => (s).setF 0x40) 0x0103 none = true := by decide

theorem test_vector_S5c : runsTo 0x0100 [0xC2, 0x12, 0x34]
    (fun s => { (s).setF 0x00 with cfg := { Config.standard with imm16Order := .lowFirst } })
    (fun s => (s).setF 0x00) 0x3412 none = true := by decide

theorem test_vector_S6 : runsTo 0x0100 [0xED, 0xB0]
    (fun s => ((((((s).setPair .HL 0x0200).setPair .DE 0x0300).setPair .BC 0x0003).writeByte 0x0200 0x11).writeByte 0x0201 0x22).writeByte 0x0202 0x33)
    (fun s => (((((((s).setF 0x00).setPair .BC 0x0000).setPair .DE 0x0303).setPair .HL 0x0203).writeByte 0x0300 0x11).writeByte 0x0301 0x22).writeByte 0x0302 0x33) 0x0102 (some 58) = true := by decide

theorem test_vector_S7b : runsTo 0x0100 [0x03]
    (fun s => (s).setF 0xFF)
    (fun s => ((s).setF 0xFD).setPair .BC 0x0001) 0x0101 none = true := by decide

theorem test_vector_S7d : runsTo 0x0100 [0xB8]
    (fun s => (((s).setReg .A 0x01).setReg .B 0x01).setF 0x3B)
    (fun s => (s).setF 0x7B) 0x0101 none = true := by decide

theorem test_vector_S7e : runsTo 0x0100 [0x09]
    (fun s => (((s).setPair .HL 0x0008).setPair .BC 0x0008).setF 0xC4)
    (fun s => ((s).setF 0xD6).setPair .HL 0x0010) 0x0101 none = true := by decide

theorem test_vector_V1 : runsTo 0x0100 [0x3C]
    (fun s => (s).setReg .A 0x7F)
    (fun s => ((s).setReg .A 0x80).setF 0x14) 0x0101 none = true := by decide

theorem test_vector_V3 : runsTo 0x0100 [0x04]
    (fun s => ((s).setReg .B 0x80).setF 0xFF)
    (fun s => ((s).setF 0xED).setReg .B 0x81) 0x0101 none = true := by decide

theorem test_vector_V5 : runsTo 0x0100 [0x3D]
    (fun s => (s).setReg .A 0x00)
    (fun s => ((s).setReg .A 0xFF).setF 0x96) 0x0101 none = true := by decide

theorem test_vector_V6 : runsTo 0x0100 [0x05]
    (fun s => (s).setReg .B 0x80)
    (fun s => ((s).setF 0x12).setReg .B 0x7F) 0x0101 none = true := by decide

theorem test_vector_V7 : runsTo 0x0100 [0x0D]
    (fun s => ((s).setReg .C 0x10).setF 0x01)
    (fun s => ((s).setF 0x13).setReg .C 0x0F) 0x0101 none = true := by decide

theorem test_vector_V8 : runsTo 0x0100 [0x25]
    (fun s => ((s).setReg .H 0x01).setF 0xBD)
    (fun s => ((s).setF 0x6B).setReg .H 0x00) 0x0101 none = true := by decide

theorem test_vector_V9 : runsTo 0x0100 [0x23]
    (fun s => ((s).setPair .HL 0xFFFF).setF 0xFF)
    (fun s => ((s).setF 0xFD).setPair .HL 0x0000) 0x0101 none = true := by decide

theorem test_vector_V10 : runsTo 0x0100 [0x13]
    (fun s => (s).setPair .DE 0x00FF)
    (fun s => ((s).setF 0x00).setPair .DE 0x0100) 0x0101 none = true := by decide

theorem test_vector_V11 : runsTo 0x0100 [0x2B]
    (fun s => (s).setPair .HL 0x0100)
    (fun s => ((s).setF 0x02).setPair .HL 0x00FF) 0x0101 none = true := by decide

theorem test_vector_V12 : runsTo 0x0100 [0x1B]
    (fun s => ((s).setPair .DE 0x0000).setF 0xFD)
    (fun s => ((s).setF 0xFF).setPair .DE 0xFFFF) 0x0101 none = true := by decide

theorem test_vector_V13 : runsTo 0x0100 [0x29]
    (fun s => (s).setPair .HL 0x8000)
    (fun s => ((s).setF 0x03).setPair .HL 0x0000) 0x0101 none = true := by decide

theorem test_vector_V14 : runsTo 0x0100 [0x19]
    (fun s => ((s).setPair .HL 0x0008).setPair .DE 0x0008)
    (fun s => ((s).setF 0x12).setPair .HL 0x0010) 0x0101 none = true := by decide

theorem test_vector_V15 : runsTo 0x0100 [0x09]
    (fun s => ((s).setPair .HL 0x0FFF).setPair .BC 0x0001)
    (fun s => ((s).setF 0x02).setPair .HL 0x1000) 0x0101 none = true := by decide

theorem test_vector_V20 : runsTo 0x0100 [0x06, 0x5A]
    (fun s => (s).setF 0xFF)
    (fun s => ((s).setF 0xFF).setReg .B 0x5A) 0x0102 none = true := by decide

theorem test_vector_V21 : runsTo 0x0100 [0x78]
    (fun s => (s).setReg .B 0x42)
    (fun s => ((s).setReg .A 0x42).setF 0x00) 0x0101 none = true := by decide

theorem test_vector_V23 : runsTo 0x0100 [0x7E]
    (fun s => ((s).setPair .HL 0x4000).writeByte 0x4000 0xA5)
    (fun s => ((s).setReg .A 0xA5).setF 0x00) 0x0101 none = true := by decide

theorem test_vector_V24 : runsTo 0x0100 [0x66]
    (fun s => ((s).setPair .HL 0x4000).writeByte 0x4000 0x12)
    (fun s => ((s).setF 0x00).setReg .H 0x12) 0x0101 none = true := by decide

theorem test_vector_V25 : runsTo 0x0100 [0x70]
    (fun s => ((s).setPair .HL 0x4000).setReg .B 0x77)
    (fun s => ((s).setF 0x00).writeByte 0x4000 0x77) 0x0101 none = true := by decide

theorem test_vector_V26 : runsTo 0x0100 [0x75]
    (fun s => (s).setPair .HL 0x4034)
    (fun s => ((s).setF 0x00).writeByte 0x4034 0x34) 0x0101 none = true := by decide

theorem test_vector_V27 : runsTo 0x0100 [0x0A]
    (fun s => ((s).setPair .BC 0x4001).writeByte 0x4001 0x3C)
    (fun s => ((s).setReg .A 0x3C).setF 0x00) 0x0101 none = true := by decide

theorem test_vector_V28 : runsTo 0x0100 [0x12]
    (fun s => ((s).setPair .DE 0xFFFF).setReg .A 0x81)
    (fun s => ((s).setF 0x00).writeByte 0xFFFF 0x81) 0x0101 none = true := by decide

theorem test_vector_V29 : runsTo 0x0100 [0x21, 0x12, 0x34]
    (fun s => s)
    (fun s => ((s).setF 0x00).setPair .HL 0x1234) 0x0103 none = true := by decide

theorem test_vector_V30 : runsTo 0x0100 [0x21, 0x12, 0x34]
    (fun s => { s with cfg := { Config.standard with imm16Order := .lowFirst } })
    (fun s => ((s).setF 0x00).setPair .HL 0x3412) 0x0103 none = true := by decide

theorem test_vector_V31 : runsTo 0x0100 [0x32, 0x40, 0x00]
    (fun s => (s).setReg .A 0x5A)
    (fun s => ((s).setF 0x00).writeByte 0x4000 0x5A) 0x0103 none = true := by decide

theorem test_vector_V33 : runsTo 0x0100 [0x22, 0x40, 0x00]
    (fun s => ((s).setPair .HL 0xABCD).writeByte 0x4001 0x99)
    (fun s => ((s).setF 0x00).writeByte 0x4000 0xCD) 0x0103 none = true := by decide

theorem test_vector_V34 : runsTo 0x0100 [0x2A, 0x40, 0x00]
    (fun s => (((s).setPair .HL 0x1200).writeByte 0x4000 0xCD).writeByte 0x4001 0xEE)
    (fun s => ((s).setF 0x00).setReg .L 0xCD) 0x0103 none = true := by decide

theorem test_vector_V40 : runsTo 0x0100 [0xF5]
    (fun s => ((s).setReg .A 0x12).setF 0xFF)
    (fun s => (({ (s).setF 0xFF with sp := 0xFFFD }).writeByte 0xFFFE 0x12).writeByte 0xFFFD 0xFF) 0x0101 none = true := by decide

theorem test_vector_V41 : runsTo 0x0100 [0xF1]
    (fun s => (({ s with sp := 0xFFFD }).writeByte 0xFFFD 0xFF).writeByte 0xFFFE 0x12)
    (fun s => { ((s).setReg .A 0x12).setF 0xFF with sp := 0xFFFF }) 0x0101 none = true := by decide

theorem test_vector_V42 : runsTo 0x0100 [0xC5]
    (fun s => { (s).setPair .BC 0x1234 with sp := 0x0001 })
    (fun s => (({ (s).setF 0x00 with sp := 0xFFFF }).writeByte 0x0000 0x12).writeByte 0xFFFF 0x34) 0x0101 none = true := by decide

theorem test_vector_V43 : runsTo 0x0100 [0xC1]
    (fun s => (({ s with sp := 0xFFFF }).writeByte 0xFFFF 0x34).writeByte 0x0000 0x12)
    (fun s => ({ (s).setF 0x00 with sp := 0x0001 }).setPair .BC 0x1234) 0x0101 none = true := by decide

theorem test_vector_V44 : runsTo 0x0100 [0xE5]
    (fun s => { (s).setPair .HL 0x0100 with sp := 0x0102 })
    (fun s => (({ (s).setF 0x00 with sp := 0x0100 }).writeByte 0x0101 0x01).writeByte 0x0100 0x00) 0x0101 none = true := by decide

theorem test_vector_V53 : runsTo 0x0100 [0xCB, 0x38]
    (fun s => (s).setReg .B 0x01)
    (fun s => ((s).setF 0x01).setReg .B 0x00) 0x0102 none = true := by decide

theorem test_vector_V54 : runsTo 0x0100 [0xCB, 0x3F]
    (fun s => (s).setReg .A 0xFF)
    (fun s => ((s).setReg .A 0x7F).setF 0x01) 0x0102 none = true := by decide

theorem test_vector_V56 : runsTo 0x0100 [0xCB, 0x3D]
    (fun s => ((s).setReg .L 0x02).setF 0x01)
    (fun s => ((s).setF 0x00).setReg .L 0x01) 0x0102 none = true := by decide

theorem test_vector_V60 : runsTo 0x0100 [0xA0]
    (fun s => (((s).setReg .A 0xF0).setReg .B 0x8F).setF 0x03)
    (fun s => ((s).setReg .A 0x80).setF 0x94) 0x0101 none = true := by decide

theorem test_vector_V61 : runsTo 0x0100 [0xA6]
    (fun s => (((s).setReg .A 0xFF).setPair .HL 0x4000).writeByte 0x4000 0x0F)
    (fun s => ((s).setReg .A 0x0F).setF 0x10) 0x0101 none = true := by decide

theorem test_vector_V62 : runsTo 0x0100 [0xA7]
    (fun s => ((s).setReg .A 0x00).setF 0x00)
    (fun s => (s).setF 0x50) 0x0101 none = true := by decide

theorem test_vector_V63 : runsTo 0x0100 [0xB1]
    (fun s => (((s).setReg .A 0x01).setReg .C 0x80).setF 0xFF)
    (fun s => ((s).setReg .A 0x81).setF 0xAC) 0x0101 none = true := by decide

theorem test_vector_V64 : runsTo 0x0100 [0xB7]
    (fun s => ((s).setReg .A 0x00).setF 0x13)
    (fun s => (s).setF 0x40) 0x0101 none = true := by decide

theorem test_vector_V65 : runsTo 0x0100 [0xB6]
    (fun s => (((s).setReg .A 0x10).setPair .HL 0x4000).writeByte 0x4000 0x01)
    (fun s => ((s).setReg .A 0x11).setF 0x00) 0x0101 none = true := by decide

theorem test_vector_V66 : runsTo 0x0100 [0xAF]
    (fun s => ((s).setReg .A 0x80).setF 0x01)
    (fun s => ((s).setReg .A 0x00).setF 0x44) 0x0101 none = true := by decide

theorem test_vector_V67 : runsTo 0x0100 [0xA8]
    (fun s => ((s).setReg .A 0x55).setReg .B 0xAA)
    (fun s => ((s).setReg .A 0xFF).setF 0x84) 0x0101 none = true := by decide

theorem test_vector_V68 : runsTo 0x0100 [0xAE]
    (fun s => (((s).setReg .A 0xFF).setPair .HL 0x4000).writeByte 0x4000 0x0F)
    (fun s => ((s).setReg .A 0xF0).setF 0x80) 0x0101 none = true := by decide

theorem test_vector_V70 : runsTo 0x0100 [0xB8]
    (fun s => ((s).setReg .A 0x10).setReg .B 0x20)
    (fun s => (s).setF 0x80) 0x0101 none = true := by decide

theorem test_vector_V71 : runsTo 0x0100 [0xB9]
    (fun s => ((s).setReg .A 0x90).setReg .C 0x05)
    (fun s => (s).setF 0x80) 0x0101 none = true := by decide

theorem test_vector_V72 : runsTo 0x0100 [0xBF]
    (fun s => (s).setReg .A 0x90)
    (fun s => (s).setF 0x44) 0x0101 none = true := by decide

theorem test_vector_V73 : runsTo 0x0100 [0xFE, 0x20]
    (fun s => ((s).setReg .A 0x10).setF 0x01)
    (fun s => (s).setF 0x81) 0x0102 none = true := by decide

theorem test_vector_V74 : runsTo 0x0100 [0xFE, 0x80]
    (fun s => (s).setReg .A 0x80)
    (fun s => (s).setF 0x44) 0x0102 none = true := by decide

theorem test_vector_V76 : runsTo 0x0100 [0x90]
    (fun s => ((s).setReg .A 0x00).setReg .B 0x01)
    (fun s => (((s).setReg .A 0xFF).setF 0x80).setReg .A 0xFF) 0x0101 none = true := by decide

theorem test_vector_V77 : runsTo 0x0100 [0x97]
    (fun s => ((s).setReg .A 0x80).setF 0x01)
    (fun s => ((s).setReg .A 0x00).setF 0x45) 0x0101 none = true := by decide

theorem test_vector_V78 : runsTo 0x0100 [0x98]
    (fun s => (((s).setReg .A 0x10).setReg .B 0x01).setF 0x01)
    (fun s => ((s).setReg .A 0x0E).setF 0x01) 0x0101 none = true := by decide

theorem test_vector_V80 : runsTo 0x0100 [0x9F]
    (fun s => ((s).setReg .A 0x42).setF 0x01)
    (fun s => ((s).setReg .A 0xFF).setF 0x81) 0x0101 none = true := by decide

theorem test_vector_V81 : runsTo 0x0100 [0x9F]
    (fun s => ((s).setReg .A 0x42).setF 0x00)
    (fun s => ((s).setReg .A 0x00).setF 0x40) 0x0101 none = true := by decide

theorem test_vector_V90 : runsTo 0x0100 [0xC3, 0x12, 0x34]
    (fun s => s)
    (fun s => (s).setF 0x00) 0x1234 none = true := by decide

theorem test_vector_V95 : runsTo 0x0100 [0xCA, 0x20, 0x00]
    (fun s => (s).setF 0xFF)
    (fun s => (s).setF 0xFF) 0x2000 none = true := by decide

theorem test_vector_V98 : runsTo 0x0100 [0xDA, 0x20, 0x00]
    (fun s => (s).setF 0x00)
    (fun s => (s).setF 0x00) 0x0103 none = true := by decide

theorem test_vector_V101 : runsTo 0x0100 [0xE2, 0x20, 0x00]
    (fun s => (s).setF 0xFF)
    (fun s => (s).setF 0xFF) 0x0103 none = true := by decide

theorem test_vector_V102 : runsTo 0x0100 [0xEA, 0x20, 0x00]
    (fun s => (s).setF 0x00)
    (fun s => (s).setF 0x00) 0x0103 none = true := by decide

theorem test_vector_V104 : runsTo 0x0100 [0xF2, 0x20, 0x00]
    (fun s => (s).setF 0x00)
    (fun s => (s).setF 0x00) 0x2000 none = true := by decide

theorem test_vector_V106 : runsTo 0x0100 [0xFA, 0x20, 0x00]
    (fun s => (s).setF 0x00)
    (fun s => (s).setF 0x00) 0x0103 none = true := by decide

theorem test_vector_V110 : runsTo 0x0100 [0xCD, 0x20, 0x00]
    (fun s => s)
    (fun s => (({ (s).setF 0x00 with sp := 0xFFFD }).writeByte 0xFFFE 0x01).writeByte 0xFFFD 0x03) 0x2000 none = true := by decide

theorem test_vector_V112 : runsTo 0x0100 [0xCC, 0x20, 0x00]
    (fun s => (s).setF 0x00)
    (fun s => (s).setF 0x00) 0x0103 none = true := by decide

theorem test_vector_V113 : runsTo 0x0100 [0xCC, 0x20, 0x00]
    (fun s => (s).setF 0x40)
    (fun s => (({ (s).setF 0x40 with sp := 0xFFFD }).writeByte 0xFFFE 0x01).writeByte 0xFFFD 0x03) 0x2000 none = true := by decide

theorem test_vector_V114 : runsTo 0x0100 [0xC9]
    (fun s => (({ s with sp := 0xFFFD }).writeByte 0xFFFD 0x03).writeByte 0xFFFE 0x01)
    (fun s => { (s).setF 0x00 with sp := 0xFFFF }) 0x0103 none = true := by decide

theorem test_vector_V115 : runsTo 0x0100 [0xC8]
    (fun s => (({ (s).setF 0x40 with sp := 0xFFFD }).writeByte 0xFFFD 0x03).writeByte 0xFFFE 0x01)
    (fun s => { (s).setF 0x40 with sp := 0xFFFF }) 0x0103 none = true := by decide

theorem test_vector_V116 : runsTo 0x0100 [0xC8]
    (fun s => (({ (s).setF 0x00 with sp := 0xFFFD }).writeByte 0xFFFD 0x03).writeByte 0xFFFE 0x01)
    (fun s => (s).setF 0x00) 0x0101 none = true := by decide

theorem test_vector_V119 : runsTo 0x0100 [0x18, 0xFB]
    (fun s => s)
    (fun s => (s).setF 0x00) 0x00FD none = true := by decide

theorem test_vector_V122 : runsTo 0x0000 [0x18, 0x80]
    (fun s => s)
    (fun s => (s).setF 0x00) 0xFF82 none = true := by decide

theorem test_vector_V123 : runsTo 0x0104 [0x20, 0xFC]
    (fun s => (s).setF 0x00)
    (fun s => (s).setF 0x00) 0x0102 none = true := by decide

theorem test_vector_V124 : runsTo 0x0104 [0x20, 0xFC]
    (fun s => (s).setF 0x40)
    (fun s => (s).setF 0x40) 0x0106 none = true := by decide

theorem test_vector_V126 : runsTo 0x0100 [0x38, 0x05]
    (fun s => (s).setF 0x00)
    (fun s => (s).setF 0x00) 0x0102 none = true := by decide

theorem test_vector_V129 : runsTo 0x0100 [0x10, 0xFE]
    (fun s => (s).setReg .B 0x01)
    (fun s => ((s).setF 0x00).setReg .B 0x00) 0x0102 none = true := by decide

theorem test_vector_V130 : runsTo 0x0100 [0x10, 0xFE]
    (fun s => ((s).setReg .B 0x00).setF 0xFF)
    (fun s => ((s).setF 0xFF).setReg .B 0xFF) 0x0100 none = true := by decide

theorem test_vector_V140 : runsTo 0x0100 [0x08]
    (fun s => { { ((s).setReg .A 0x12).setF 0x41 with shadow := { (((s).setReg .A 0x12).setF 0x41).shadow with a := 0x34 } } with shadow := { ({ ((s).setReg .A 0x12).setF 0x41 with shadow := { (((s).setReg .A 0x12).setF 0x41).shadow with a := 0x34 } }).shadow with f := 0xBE } })
    (fun s => { { ((s).setReg .A 0x34).setF 0xBE with shadow := { (((s).setReg .A 0x34).setF 0xBE).shadow with a := 0x12 } } with shadow := { ({ ((s).setReg .A 0x34).setF 0xBE with shadow := { (((s).setReg .A 0x34).setF 0xBE).shadow with a := 0x12 } }).shadow with f := 0x41 } }) 0x0101 none = true := by decide

theorem test_vector_V141 : runsTo 0x0100 [0xD9]
    (fun s => { { { { { { (((((s).setPair .BC 0x1122).setPair .DE 0x3344).setPair .HL 0x5566).setReg .A 0x77).setF 0x88 with shadow := { ((((((s).setPair .BC 0x1122).setPair .DE 0x3344).setPair .HL 0x5566).setReg .A 0x77).setF 0x88).shadow with b := 0xAA } } with shadow := { ({ (((((s).setPair .BC 0x1122).setPair .DE 0x3344).setPair .HL 0x5566).setReg .A 0x77).setF 0x88 with shadow := { ((((((s).setPair .BC 0x1122).setPair .DE 0x3344).setPair .HL 0x5566).setReg .A 0x77).setF 0x88).shadow with b := 0xAA } }).shadow with c := 0xBB } } with shadow := { ({ { (((((s).setPair .BC 0x1122).setPair .DE 0x3344).setPair .HL 0x5566).setReg .A 0x77).setF 0x88 with shadow := { ((((((s).setPair .BC 0x1122).setPair .DE 0x3344).setPair .HL 0x5566).setReg .A 0x77).setF 0x88).shadow with b := 0xAA } } with shadow := { ({ (((((s).setPair .BC 0x1122).setPair .DE 0x3344).setPair .HL 0x5566).setReg .A 0x77).setF 0x88 with shadow := { ((((((s).setPair .BC 0x1122).setPair .DE 0x3344).setPair .HL 0x5566).setReg .A 0x77).setF 0x88).shadow with b := 0xAA } }).shadow with c := 0xBB } }).shadow with d := 0xCC } } with shadow := { ({ { { (((((s).setPair .BC 0x1122).setPair .DE 0x3344).setPair .HL 0x5566).setReg .A 0x77).setF 0x88 with shadow := { ((((((s).setPair .BC 0x1122).setPair .DE 0x3344).setPair .HL 0x5566).setReg .A 0x77).setF 0x88).shadow with b := 0xAA } } with shadow := { ({ (((((s).setPair .BC 0x1122).setPair .DE 0x3344).setPair .HL 0x5566).setReg .A 0x77).setF 0x88 with shadow := { ((((((s).setPair .BC 0x1122).setPair .DE 0x3344).setPair .HL 0x5566).setReg .A 0x77).setF 0x88).shadow with b := 0xAA } }).shadow with c := 0xBB } } with shadow := { ({ { (((((s).setPair .BC 0x1122).setPair .DE 0x3344).setPair .HL 0x5566).setReg .A 0x77).setF 0x88 with shadow := { ((((((s).setPair .BC 0x1122).setPair .DE 0x3344).setPair .HL 0x5566).setReg .A 0x77).setF 0x88).shadow with b := 0xAA } } with shadow := { ({ (((((s).setPair .BC 0x1122).setPair .DE 0x3344).setPair .HL 0x5566).setReg .A 0x77).setF 0x88 with shadow := { ((((((s).setPair .BC 0x1122).setPair .DE 0x3344).setPair .HL 0x5566).setReg .A 0x77).setF 0x88).shadow with b := 0xAA } }).shadow with c := 0xBB } }).shadow with d := 0xCC } }).shadow with e := 0xDD } } with shadow := { ({ { { { (((((s).setPair .BC 0x1122).setPair .DE 0x3344).setPair .HL 0x5566).setReg .A 0x77).setF 0x88 with shadow := { ((((((s).setPair .BC 0x1122).setPair .DE 0x3344).setPair .HL 0x5566).setReg .A 0x77).setF 0x88).shadow with b := 0xAA } } with shadow := { ({ (((((s).setPair .BC 0x1122).setPair .DE 0x3344).setPair .HL 0x5566).setReg .A 0x77).setF 0x88 with shadow := { ((((((s).setPair .BC 0x1122).setPair .DE 0x3344).setPair .HL 0x5566).setReg .A 0x77).setF 0x88).shadow with b := 0xAA } }).shadow with c := 0xBB } } with shadow := { ({ { (((((s).setPair .BC 0x1122).setPair .DE 0x3344).setPair .HL 0x5566).setReg .A 0x77).setF 0x88 with shadow := { ((((((s).setPair .BC 0x1122).setPair .DE 0x3344).setPair .HL 0x5566).setReg .A 0x77).setF 0x88).shadow with b := 0xAA } } with shadow := { ({ (((((s).setPair .BC 0x1122).setPair .DE 0x3344).setPair .HL 0x5566).setReg .A 0x77).setF 0x88 with shadow := { ((((((s).setPair .BC 0x1122).setPair .DE 0x3344).setPair .HL 0x5566).setReg .A 0x77).setF 0x88).shadow with b := 0xAA } }).shadow with c := 0xBB } }).shadow with d := 0xCC } } with shadow := { ({ { { (((((s).setPair .BC 0x1122).setPair .DE 0x3344).setPair .HL 0x5566).setReg .A 0x77).setF 0x88 with shadow := { ((((((s).setPair .BC 0x1122).setPair .DE 0x3344).setPair .HL 0x5566).setReg .A 0x77).setF 0x88).shadow with b := 0xAA } } with shadow := { ({ (((((s).setPair .BC 0x1122).setPair .DE 0x3344).setPair .HL 0x5566).setReg .A 0x77).setF 0x88 with shadow := { ((((((s).setPair .BC 0x1122).setPair .DE 0x3344).setPair .HL 0x5566).setReg .A 0x77).setF 0x88).shadow with b := 0xAA } }).shadow with c := 0xBB } } with shadow := { ({ { (((((s).setPair .BC 0x1122).setPair .DE 0x3344).setPair .HL 0x5566).setReg .A 0x77).setF 0x88 with shadow := { ((((((s).setPair .BC 0x1122).setPair .DE 0x3344).setPair .HL 0x5566).setReg .A 0x77).setF 0x88).shadow with b := 0xAA } } with shadow := { ({ (((((s).setPair .BC 0x1122).setPair .DE 0x3344).setPair .HL 0x5566).setReg .A 0x77).setF 0x88 with shadow := { ((((((s).setPair .BC 0x1122).setPair .DE 0x3344).setPair .HL 0x5566).setReg .A 0x77).setF 0x88).shadow with b := 0xAA } }).shadow with c := 0xBB } }).shadow with d := 0xCC } }).shadow with e := 0xDD } }).shadow with h := 0xEE } } with shadow := { ({ { { { { (((((s).setPair .BC 0x1122).setPair .DE 0x3344).setPair .HL 0x5566).setReg .A 0x77).setF 0x88 with shadow := { ((((((s).setPair .BC 0x1122).setPair .DE 0x3344).setPair .HL 0x5566).setReg .A 0x77).setF 0x88).shadow with b := 0xAA } } with shadow := { ({ (((((s).setPair .BC 0x1122).setPair .DE 0x3344).setPair .HL 0x5566).setReg .A 0x77).setF 0x88 with shadow := { ((((((s).setPair .BC 0x1122).setPair .DE 0x3344).setPair .HL 0x5566).setReg .A 0x77).setF 0x88).shadow with b := 0xAA } }).shadow with c := 0xBB } } with shadow := { ({ { (((((s).setPair .BC 0x1122).setPair .DE 0x3344).setPair .HL 0x5566).setReg .A 0x77).setF 0x88 with shadow := { ((((((s).setPair .BC 0x1122).setPair .DE 0x3344).setPair .HL 0x5566).setReg .A 0x77).setF 0x88).shadow with b := 0xAA } } with shadow := { ({ (((((s).setPair .BC 0x1122).setPair .DE 0x3344).setPair .HL 0x5566).setReg .A 0x77).setF 0x88 with shadow := { ((((((s).setPair .BC 0x1122).setPair .DE 0x3344).setPair .HL 0x5566).setReg .A 0x77).setF 0x88).shadow with b := 0xAA } }).shadow with c := 0xBB } }).shadow with d := 0xCC } } with shadow := { ({ { { (((((s).setPair .BC 0x1122).setPair .DE 0x3344).setPair .HL 0x5566).setReg .A 0x77).setF 0x88 with shadow := { ((((((s).setPair .BC 0x1122).setPair .DE 0x3344).setPair .HL 0x5566).setReg .A 0x77).setF 0x88).shadow with b := 0xAA } } with shadow := { ({ (((((s).setPair .BC 0x1122).setPair .DE 0x3344).setPair .HL 0x5566).setReg .A 0x77).setF 0x88 with shadow := { ((((((s).setPair .BC 0x1122).setPair .DE 0x3344).setPair .HL 0x5566).setReg .A 0x77).setF 0x88).shadow with b := 0xAA } }).shadow with c := 0xBB } } with shadow := { ({ { (((((s).setPair .BC 0x1122).setPair .DE 0x3344).setPair .HL 0x5566).setReg .A 0x77).setF 0x88 with shadow := { ((((((s).setPair .BC 0x1122).setPair .DE 0x3344).setPair .HL 0x5566).setReg .A 0x77).setF 0x88).shadow with b := 0xAA } } with shadow := { ({ (((((s).setPair .BC 0x1122).setPair .DE 0x3344).setPair .HL 0x5566).setReg .A 0x77).setF 0x88 with shadow := { ((((((s).setPair .BC 0x1122).setPair .DE 0x3344).setPair .HL 0x5566).setReg .A 0x77).setF 0x88).shadow with b := 0xAA } }).shadow with c := 0xBB } }).shadow with d := 0xCC } }).shadow with e := 0xDD } } with shadow := { ({ { { { (((((s).setPair .BC 0x1122).setPair .DE 0x3344).setPair .HL 0x5566).setReg .A 0x77).setF 0x88 with shadow := { ((((((s).setPair .BC 0x1122).setPair .DE 0x3344).setPair .HL 0x5566).setReg .A 0x77).setF 0x88).shadow with b := 0xAA } } with shadow := { ({ (((((s).setPair .BC 0x1122).setPair .DE 0x3344).setPair .HL 0x5566).setReg .A 0x77).setF 0x88 with shadow := { ((((((s).setPair .BC 0x1122).setPair .DE 0x3344).setPair .HL 0x5566).setReg .A 0x77).setF 0x88).shadow with b := 0xAA } }).shadow with c := 0xBB } } with shadow := { ({ { (((((s).setPair .BC 0x1122).setPair .DE 0x3344).setPair .HL 0x5566).setReg .A 0x77).setF 0x88 with shadow := { ((((((s).setPair .BC 0x1122).setPair .DE 0x3344).setPair .HL 0x5566).setReg .A 0x77).setF 0x88).shadow with b := 0xAA } } with shadow := { ({ (((((s).setPair .BC 0x1122).setPair .DE 0x3344).setPair .HL 0x5566).setReg .A 0x77).setF 0x88 with shadow := { ((((((s).setPair .BC 0x1122).setPair .DE 0x3344).setPair .HL 0x5566).setReg .A 0x77).setF 0x88).shadow with b := 0xAA } }).shadow with c := 0xBB } }).shadow with d := 0xCC } } with shadow := { ({ { { (((((s).setPair .BC 0x1122).setPair .DE 0x3344).setPair .HL 0x5566).setReg .A 0x77).setF 0x88 with shadow := { ((((((s).setPair .BC 0x1122).setPair .DE 0x3344).setPair .HL 0x5566).setReg .A 0x77).setF 0x88).shadow with b := 0xAA } } with shadow := { ({ (((((s).setPair .BC 0x1122).setPair .DE 0x3344).setPair .HL 0x5566).setReg .A 0x77).setF 0x88 with shadow := { ((((((s).setPair .BC 0x1122).setPair .DE 0x3344).setPair .HL 0x5566).setReg .A 0x77).setF 0x88).shadow with b := 0xAA } }).shadow with c := 0xBB } } with shadow := { ({ { (((((s).setPair .BC 0x1122).setPair .DE 0x3344).setPair .HL 0x5566).setReg .A 0x77).setF 0x88 with shadow := { ((((((s).setPair .BC 0x1122).setPair .DE 0x3344).setPair .HL 0x5566).setReg .A 0x77).setF 0x88).shadow with b := 0xAA } } with shadow := { ({ (((((s).setPair .BC 0x1122).setPair .DE 0x3344).setPair .HL 0x5566).setReg .A 0x77).setF 0x88 with shadow := { ((((((s).setPair .BC 0x1122).setPair .DE 0x3344).setPair .HL 0x5566).setReg .A 0x77).setF 0x88).shadow with b := 0xAA } }).shadow with c := 0xBB } }).shadow with d := 0xCC } }).shadow with e := 0xDD } }).shadow with h := 0xEE } }).shadow with l := 0xFF } })
    (fun s => ((({ { { { { { (s).setF 0x88 with shadow := { ((s).setF 0x88).shadow with b := 0x11 } } with shadow := { ({ (s).setF 0x88 with shadow := { ((s).setF 0x88).shadow with b := 0x11 } }).shadow with c := 0x22 } } with shadow := { ({ { (s).setF 0x88 with shadow := { ((s).setF 0x88).shadow with b := 0x11 } } with shadow := { ({ (s).setF 0x88 with shadow := { ((s).setF 0x88).shadow with b := 0x11 } }).shadow with c := 0x22 } }).shadow with d := 0x33 } } with shadow := { ({ { { (s).setF 0x88 with shadow := { ((s).setF 0x88).shadow with b := 0x11 } } with shadow := { ({ (s).setF 0x88 with shadow := { ((s).setF 0x88).shadow with b := 0x11 } }).shadow with c := 0x22 } } with shadow := { ({ { (s).setF 0x88 with shadow := { ((s).setF 0x88).shadow with b := 0x11 } } with shadow := { ({ (s).setF 0x88 with shadow := { ((s).setF 0x88).shadow with b := 0x11 } }).shadow with c := 0x22 } }).shadow with d := 0x33 } }).shadow with e := 0x44 } } with shadow := { ({ { { { (s).setF 0x88 with shadow := { ((s).setF 0x88).shadow with b := 0x11 } } with shadow := { ({ (s).setF 0x88 with shadow := { ((s).setF 0x88).shadow with b := 0x11 } }).shadow with c := 0x22 } } with shadow := { ({ { (s).setF 0x88 with shadow := { ((s).setF 0x88).shadow with b := 0x11 } } with shadow := { ({ (s).setF 0x88 with shadow := { ((s).setF 0x88).shadow with b := 0x11 } }).shadow with c := 0x22 } }).shadow with d := 0x33 } } with shadow := { ({ { { (s).setF 0x88 with shadow := { ((s).setF 0x88).shadow with b := 0x11 } } with shadow := { ({ (s).setF 0x88 with shadow := { ((s).setF 0x88).shadow with b := 0x11 } }).shadow with c := 0x22 } } with shadow := { ({ { (s).setF 0x88 with shadow := { ((s).setF 0x88).shadow with b := 0x11 } } with shadow := { ({ (s).setF 0x88 with shadow := { ((s).setF 0x88).shadow with b := 0x11 } }).shadow with c := 0x22 } }).shadow with d := 0x33 } }).shadow with e := 0x44 } }).shadow with h := 0x55 } } with shadow := { ({ { { { { (s).setF 0x88 with shadow := { ((s).setF 0x88).shadow with b := 0x11 } } with shadow := { ({ (s).setF 0x88 with shadow := { ((s).setF 0x88).shadow with b := 0x11 } }).shadow with c := 0x22 } } with shadow := { ({ { (s).setF 0x88 with shadow := { ((s).setF 0x88).shadow with b := 0x11 } } with shadow := { ({ (s).setF 0x88 with shadow := { ((s).setF 0x88).shadow with b := 0x11 } }).shadow with c := 0x22 } }).shadow with d := 0x33 } } with shadow := { ({ { { (s).setF 0x88 with shadow := { ((s).setF 0x88).shadow with b := 0x11 } } with shadow := { ({ (s).setF 0x88 with shadow := { ((s).setF 0x88).shadow with b := 0x11 } }).shadow with c := 0x22 } } with shadow := { ({ { (s).setF 0x88 with shadow := { ((s).setF 0x88).shadow with b := 0x11 } } with shadow := { ({ (s).setF 0x88 with shadow := { ((s).setF 0x88).shadow with b := 0x11 } }).shadow with c := 0x22 } }).shadow with d := 0x33 } }).shadow with e := 0x44 } } with shadow := { ({ { { { (s).setF 0x88 with shadow := { ((s).setF 0x88).shadow with b := 0x11 } } with shadow := { ({ (s).setF 0x88 with shadow := { ((s).setF 0x88).shadow with b := 0x11 } }).shadow with c := 0x22 } } with shadow := { ({ { (s).setF 0x88 with shadow := { ((s).setF 0x88).shadow with b := 0x11 } } with shadow := { ({ (s).setF 0x88 with shadow := { ((s).setF 0x88).shadow with b := 0x11 } }).shadow with c := 0x22 } }).shadow with d := 0x33 } } with shadow := { ({ { { (s).setF 0x88 with shadow := { ((s).setF 0x88).shadow with b := 0x11 } } with shadow := { ({ (s).setF 0x88 with shadow := { ((s).setF 0x88).shadow with b := 0x11 } }).shadow with c := 0x22 } } with shadow := { ({ { (s).setF 0x88 with shadow := { ((s).setF 0x88).shadow with b := 0x11 } } with shadow := { ({ (s).setF 0x88 with shadow := { ((s).setF 0x88).shadow with b := 0x11 } }).shadow with c := 0x22 } }).shadow with d := 0x33 } }).shadow with e := 0x44 } }).shadow with h := 0x55 } }).shadow with l := 0x66 } }).setPair .BC 0xAABB).setPair .DE 0xCCDD).setPair .HL 0xEEFF) 0x0101 none = true := by decide

theorem test_vector_V142 : runsTo 0x0100 [0xEB]
    (fun s => ((s).setPair .DE 0x1234).setPair .HL 0xABCD)
    (fun s => (((s).setF 0x00).setPair .DE 0xABCD).setPair .HL 0x1234) 0x0101 none = true := by decide

theorem test_vector_V151 : runsTo 0x0100 [0xED, 0xB0]
    (fun s => (((((s).setPair .HL 0x0200).setPair .DE 0x0201).setPair .BC 0x0004).setF 0xFF).writeByte 0x0200 0xAA)
    (fun s => ((((((((s).setF 0xFF).setPair .BC 0x0000).setPair .DE 0x0205).setPair .HL 0x0204).writeByte 0x0201 0xAA).writeByte 0x0202 0xAA).writeByte 0x0203 0xAA).writeByte 0x0204 0xAA) 0x0102 (some 79) = true := by decide

theorem test_vector_V154 : runsTo 0x0100 [0xED, 0x79]
    (fun s => ((s).setPair .BC 0x7F10).setReg .A 0x8C)
    (fun s => ((s).setF 0x00).portWrite 0x7F10 0x8C) 0x0102 none = true := by decide

theorem test_vector_V155 : runsTo 0x0100 [0xED, 0x41]
    (fun s => (s).setPair .BC 0x1234)
    (fun s => ((s).setF 0x00).portWrite 0x1234 0x12) 0x0102 none = true := by decide

theorem test_vector_V156 : runsTo 0x0100 [0xED, 0x78]
    (fun s => { ((s).setPair .BC 0xF400).setF 0xFF with answers := [0x5E] })
    (fun s => { (((s).setReg .A 0x5E).setF 0xFF).portRead 0xF400 0x5E with answers := [] }) 0x0102 none = true := by decide

theorem test_vector_V157 : runsTo 0x0100 [0xED, 0x78]
    (fun s => { ((s).setPair .BC 0xF400).setReg .A 0xFF with answers := [0x00] })
    (fun s => { (((s).setReg .A 0x00).setF 0x00).portRead 0xF400 0x00 with answers := [] }) 0x0102 none = true := by decide

theorem test_vector_V158 : runsTo 0x0100 [0xF3]
    (fun s => { { s with iff1 := true } with iff2 := true })
    (fun s => { { (s).setF 0x00 with iff1 := false } with iff2 := false }) 0x0101 none = true := by decide

theorem test_vector_V159 : runsTo 0x0100 [0xFB]
    (fun s => s)
    (fun s => { { (s).setF 0x00 with iff1 := true } with iff2 := true }) 0x0101 none = true := by decide

theorem test_vector_V160 : runsTo 0x0100 [0xED, 0x46]
    (fun s => { s with im := .im2 })
    (fun s => { (s).setF 0x00 with im := .im0 }) 0x0102 none = true := by decide

theorem test_vector_V161 : runsTo 0x0100 [0xED, 0x56]
    (fun s => s)
    (fun s => { (s).setF 0x00 with im := .im1 }) 0x0102 none = true := by decide

theorem test_vector_V162 : runsTo 0x0100 [0xED, 0x5E]
    (fun s => s)
    (fun s => { (s).setF 0x00 with im := .im2 }) 0x0102 none = true := by decide

theorem test_vector_V170 : runsTo 0x0100 [0xDD, 0x21, 0x12, 0x34]
    (fun s => s)
    (fun s => ((s).setF 0x00).setPair .IX 0x1234) 0x0104 none = true := by decide

theorem test_vector_V171 : runsTo 0x0100 [0xDD, 0x21, 0x12, 0x34]
    (fun s => { s with cfg := { Config.standard with imm16Order := .lowFirst } })
    (fun s => ((s).setF 0x00).setPair .IX 0x3412) 0x0104 none = true := by decide

theorem test_vector_V172 : runsTo 0x0100 [0xDD, 0x23]
    (fun s => ((s).setPair .IX 0xFFFF).setF 0x02)
    (fun s => ((s).setF 0x00).setPair .IX 0x0000) 0x0102 none = true := by decide

theorem test_vector_V173 : runsTo 0x0100 [0xDD, 0x2B]
    (fun s => (s).setPair .IX 0x0000)
    (fun s => ((s).setF 0x02).setPair .IX 0xFFFF) 0x0102 none = true := by decide

theorem test_vector_V174 : runsTo 0x0100 [0xDD, 0x09]
    (fun s => ((s).setPair .IX 0xFFF8).setPair .BC 0x0008)
    (fun s => ((s).setF 0x13).setPair .IX 0x0000) 0x0102 none = true := by decide

theorem test_vector_V175 : runsTo 0x0100 [0xDD, 0x29]
    (fun s => (s).setPair .IX 0x8008)
    (fun s => ((s).setF 0x13).setPair .IX 0x0010) 0x0102 none = true := by decide

theorem test_vector_V177 : runsTo 0x0100 [0xDD, 0xE5]
    (fun s => (s).setPair .IX 0xCD89)
    (fun s => (({ (s).setF 0x00 with sp := 0xFFFD }).writeByte 0xFFFE 0xCD).writeByte 0xFFFD 0x89) 0x0102 none = true := by decide

theorem test_vector_V178 : runsTo 0x0100 [0xDD, 0xE1]
    (fun s => (({ s with sp := 0xFFFD }).writeByte 0xFFFD 0x89).writeByte 0xFFFE 0xCD)
    (fun s => ({ (s).setF 0x00 with sp := 0xFFFF }).setPair .IX 0xCD89) 0x0102 none = true := by decide

theorem test_vector_V179 : runsTo 0x0100 [0xDD, 0x22, 0x40, 0x00]
    (fun s => (s).setPair .IX 0xABCD)
    (fun s => ((s).setF 0x00).writeByte 0x4000 0xCD) 0x0104 none = true := by decide

theorem test_vector_V180 : runsTo 0x0100 [0xDD, 0x2A, 0x40, 0x00]
    (fun s => ((s).setPair .IX 0x1200).writeByte 0x4000 0xCD)
    (fun s => { (s).setF 0x00 with ixl := 0xCD }) 0x0104 none = true := by decide

theorem test_vector_V196 : runsTo 0xFFFF [0x3E, 0x7B]
    (fun s => s)
    (fun s => ((s).setReg .A 0x7B).setF 0x00) 0x0001 none = true := by decide

theorem test_vector_V197 : runsTo 0xFFFF [0xED, 0x5E]
    (fun s => s)
    (fun s => { (s).setF 0x00 with im := .im2 }) 0x0001 none = true := by decide

theorem test_vector_V198 : runsTo 0xFFFE [0xC3, 0x12, 0x34]
    (fun s => s)
    (fun s => (s).setF 0x00) 0x1234 none = true := by decide

/-- S8, V58, V163, V181, V190 to V194: unmapped opcodes, after each prefix too. -/
theorem test_fatal_stops :
    stopsAt [0x76] .basic 0x76 = true ∧ stopsAt [0x00] .basic 0x00 = true ∧ stopsAt [0xCB, 0x00] .bit 0x00 = true ∧
    stopsAt [0xED, 0x71] .extended 0x71 = true ∧ stopsAt [0xDD, 0x39] .index 0x39 = true ∧
    stopsAt [0xFD] .basic 0xFD = true ∧ stopsAt [0xED, 0xED] .extended 0xED = true ∧
    stopsAt [0xDD, 0xCB] .index 0xCB = true ∧ stopsAt [0xCB, 0xDD] .bit 0xDD = true := by decide

/-! ### Witnesses: for every statement with hypotheses, a state and operands that meet them -/

/-- Reset with the byte order the Zilog part has. -/
def lowFirst : State := .resetWith { Config.standard with imm16Order := .lowFirst }

theorem test_witness_StepKeepsInvariant :
    ∃ s t : State, s.Inv ∧ step s = .next t := by
  refine ⟨State.reset.withFetchWord 8 0x04, _, ?_, rfl⟩
  exact ⟨by decide, by decide, by decide, by decide, by decide⟩

theorem test_witness_EveryReachedStateMeetsInvariant :
    ∃ t, RunsTo 2 (((State.resetWith .standard).placeBytes 0x0100 [0xC5, 0xE1]).run 0x0100) t :=
  ⟨_, _, rfl, _, rfl, rfl⟩

theorem test_witness_DecodedBytesAreTheEncoding : decodeWindow 0xDD 0x22 0x40 0x00 = .ok (.ld_inn_IX 0x40 0x00) := by
  decide

/-- The opcode is at 0xFFFF and the operand byte at 0x0000. -/
theorem test_witness_StepRunsDecodedInstruction :
    let s : State := { State.reset.placeBytes 0xFFFF [0x3E, 0x7B] with pc := 0xFFFF }
    s.stop = none ∧
    decodeWindow (s.readByte s.pc) (s.readByte (s.pc + 1)) (s.readByte (s.pc + 2)) (s.readByte (s.pc + 3)) =
      .ok (.ld_A_n 0x7B) := by decide

theorem test_witness_StepRunsEncodedInstruction :
    let s : State := { State.reset.placeBytes 0xFFFF [0x3E, 0x7B] with pc := 0xFFFF }
    s.stop = none ∧
    ∀ k, k < (encode (.ld_A_n 0x7B)).length →
      s.readByte (s.pc + BitVec.ofNat 16 k) = (encode (.ld_A_n 0x7B)).getD k 0 := by decide

theorem test_witness_FatalStop_prefixed :
    let s : State := State.reset.placeBytes 0x0000 [0xDD, 0xDD]
    s.stop = none ∧ prefixNamespace (s.readByte s.pc) = some .index ∧
    (catalog .index (s.readByte (s.pc + 1))).isNone = true := by decide

theorem test_witness_FatalStop_basic :
    let s : State := State.reset.placeBytes 0x0000 [0x00]
    s.stop = none ∧ prefixNamespace (s.readByte s.pc) = none ∧ (catalog .basic (s.readByte s.pc)).isNone = true := by
  decide

/-- Bits 7 and 0, the ends of the range. -/
theorem test_witness_FlagWritesTouchOneBit :
    (7 < 8 ∧ (Flag.put .S true 0x00).getLsbD 7 = true) ∧ (0 < 8 ∧ (Flag.put .S true 0x01).getLsbD 0 = true) := by decide

theorem test_witness_PairsAreHighRegisterFirst : Pair.AF ≠ Pair.IX ∧ Reg.A ∉ pairRegs .HL := by decide

theorem test_witness_LoadPairImmediate :
    State.reset.cfg.imm16Order = .highFirst ∧ lowFirst.cfg.imm16Order = .lowFirst := by decide

theorem test_witness_IndexLoadImmediate :
    State.reset.cfg.imm16Order = .highFirst ∧ lowFirst.cfg.imm16Order = .lowFirst := by decide

theorem test_witness_PopReturnsWhatWasPushed : Qq.BC ≠ Qq.AF := by decide

/-- For `CALL cc`, `RET cc`: each of the eight conditions holds in one state and fails in another. -/
theorem test_witness_Calls_and_Returns :
    ([Cond.NZ, .NC, .PO, .P].all fun cc => State.reset.cond cc && !(State.reset.setF 0xFF).cond cc) = true ∧
    ([Cond.Z, .C, .PE, .M].all fun cc => !State.reset.cond cc && (State.reset.setF 0xFF).cond cc) = true := by decide

theorem test_witness_RelativeJumps :
    ([RelCond.NZ, .NC].all fun cc => State.reset.cond cc.cond && !(State.reset.setF 0xFF).cond cc.cond) = true ∧
    ([RelCond.Z, .C].all fun cc => !State.reset.cond cc.cond && (State.reset.setF 0xFF).cond cc.cond) = true := by decide

/-- `B` at 1, and at 0 and 0xFF. -/
theorem test_witness_DecrementBAndJump :
    ((State.reset.setReg .B 1).reg .B).toNat = 1 ∧ (State.reset.reg .B).toNat ≠ 1 ∧
    ((State.reset.setReg .B 0xFF).reg .B).toNat ≠ 1 := by decide

/-- Adjoining ranges: HL = 0x0200, DE = 0x0203, BC = 3. -/
theorem test_witness_BlockCopyOfDisjointRanges :
    let s : State := ((State.reset.setPair .HL 0x0200).setPair .DE 0x0203).setPair .BC 3
    s.pair .BC ≠ 0 ∧
    ∀ j, j < (s.pair .BC).toNat → ∀ k, k < (s.pair .BC).toNat →
      s.pair .DE + BitVec.ofNat 16 j ≠ s.pair .HL + BitVec.ofNat 16 k := by decide

theorem test_witness_PortReadGoesToA :
    State.reset.answers = [] ∧ ({ State.reset with answers := [0x5E] } : State).answers = 0x5E :: [] := by decide

/-- A push, and an address it does not store to. -/
theorem test_witness_MemoryChangesOnlyWhereStored :
    (∃ t, exec .push_BC State.reset = .next t) ∧ storesTo .push_BC State.reset 0xFFFF = false ∧
    storesTo .push_BC State.reset 0xFFFE = true := ⟨⟨_, rfl⟩, by decide, by decide⟩

theorem test_witness_StackPointerMovesByTwo :
    ∃ t, exec (.call_nn 0x12 0x34) State.reset = .next t ∧ t.sp ≠ State.reset.sp := ⟨_, rfl, by decide⟩

theorem test_witness_PcAdvancesByLength :
    isTransfer (.ld_inn_IX 0x40 0x00) = false ∧ ∃ t, exec (.ld_inn_IX 0x40 0x00) State.reset = .next t :=
  ⟨rfl, _, rfl⟩

theorem test_witness_WhoWritesFlagStorageAndShadows :
    (∃ t, exec .xor_A State.reset = .next t) ∧ Instr.xor_A ≠ .pop_AF ∧ Instr.xor_A ≠ .ex_AF ∧ Instr.xor_A ≠ .exx :=
  ⟨⟨_, rfl⟩, by decide, by decide, by decide⟩

theorem test_witness_PortsReachedByTwoFormsOnly :
    (∃ t, exec .ldir (State.reset.setPair .BC 1) = .next t) ∧ (∀ r, Instr.ldir ≠ .out_r r) ∧ Instr.ldir ≠ .in_A_iC := by
  refine ⟨⟨_, rfl⟩, fun r => ?_, by decide⟩
  cases r <;> decide

theorem test_witness_RomPlacement :
    (List.replicate 16384 (0 : Byte)).length = 16384 ∧ (List.replicate 32768 (0 : Byte)).length = 32768 ∧
    ([] : List Byte).length ≠ 16384 ∧ ([] : List Byte).length ≠ 32768 := by
  refine ⟨List.length_replicate, List.length_replicate, by decide, by decide⟩


end Sys2Proof.Tests
end

section
/-! The scope (`00_scope.md`): a step as the fetched instruction's execution, and the register pairs. -/

namespace Sys2Proof.Machine

/-! ### One step (`00_scope.md` rule R8, `30_encoding.md` rule R81) -/

/-- Fetch reads the four bytes from `pc` on, their addresses mod 65536. -/
theorem State.fetch_eq_decodeWindow (s : State) :
    s.fetch = decodeWindow (s.readByte s.pc) (s.readByte (s.pc + 1)) (s.readByte (s.pc + 2))
      (s.readByte (s.pc + 3)) := by
  simp [fetch, fetchByte]

theorem step_of_fetch_ok {s : State} {i : Instr} (hs : s.stop = none) (hf : s.fetch = .ok i) :
    step s = exec i s := by
  simp only [step, hs, hf]

/-! ### A write of a pair, as writes of its two registers (`10_state.md` rules R22, R31) -/

namespace State

variable (s : State) (v : Word)

theorem setPair_BC_eq : s.setPair .BC v = (s.setReg .B (hiByte v)).setReg .C (loByte v) := rfl
theorem setPair_DE_eq : s.setPair .DE v = (s.setReg .D (hiByte v)).setReg .E (loByte v) := rfl
theorem setPair_HL_eq : s.setPair .HL v = (s.setReg .H (hiByte v)).setReg .L (loByte v) := rfl
theorem setPair_AF_eq : s.setPair .AF v = (s.setReg .A (hiByte v)).setF (loByte v) := rfl

/-- Writing a pair leaves every general register outside it alone. -/
theorem setPair_keepsRegs (p : Pair) : KeepsRegs (pairRegs p) s (s.setPair p v) := by
  intro r hr
  cases p with
  | BC =>
    obtain ⟨hB, hC⟩ : r ≠ .B ∧ r ≠ .C := by simpa [pairRegs] using hr
    simp [setPair_BC_eq, hB, hC]
  | DE =>
    obtain ⟨hD, hE⟩ : r ≠ .D ∧ r ≠ .E := by simpa [pairRegs] using hr
    simp [setPair_DE_eq, hD, hE]
  | HL =>
    obtain ⟨hH, hL⟩ : r ≠ .H ∧ r ≠ .L := by simpa [pairRegs] using hr
    simp [setPair_HL_eq, hH, hL]
  | AF =>
    have hA : r ≠ .A := by simpa [pairRegs] using hr
    simp [setPair_AF_eq, hA]
  | IX => rfl

end State

/-- Settles O9: fetch is the decoder on the four bytes from `pc` on, and a step dispatches on what fetch answers. -/
theorem stepRunsDecodedInstruction : Obligations.StepRunsDecodedInstruction := by
  intro s i hs hd
  exact step_of_fetch_ok hs (s.fetch_eq_decodeWindow.trans hd)

/-- Settles O13: a pair is its two registers joined, and a write of it is the writes of those two. -/
theorem pairsAreHighRegisterFirst : Obligations.PairsAreHighRegisterFirst := by
  intro s
  refine ⟨join_toNat _ _, join_toNat _ _, join_toNat _ _, join_toNat _ _, join_toNat _ _, fun p v => ?_⟩
  exact ⟨s.setPair_pair p v, fun _ hq => s.setPair_pair_other v hq, s.setPair_keepsRegs v p⟩

end Sys2Proof.Machine
end

section
/-! Reset (`10_state.md` rule R37) and the one-bit flag writes (rules R23, R24). -/

namespace Sys2Proof.Machine

/-- Settles O1: the fields of reset, and a memory that lists no address. -/
theorem resetValues : Obligations.ResetValues := by
  intro cfg
  refine ⟨fun r => ?_, rfl, rfl, rfl, rfl, rfl, rfl, rfl, rfl, rfl, rfl, rfl, rfl, fun a => rfl, fun start => rfl⟩
  cases r <;> rfl

/-- Settles O2: memory lists nothing, and `sp` is 0xFFFF. -/
theorem resetMeetsInvariant : Obligations.ResetMeetsInvariant := by
  intro cfg
  exact ⟨⟨.nil, nofun⟩, rfl, rfl, rfl, (by decide : (0xFFFF : Word).getLsbD 0 = true)⟩

/-- The mask of a flag has its own bit and no other (`10_state.md` rule R23). -/
theorem Flag.mask_getLsbD (fl : Flag) (k : Nat) : fl.mask.getLsbD k = decide (k = fl.bit) := by
  have hmask : fl.mask = BitVec.twoPow 8 fl.bit := rfl
  have hbit : fl.bit < 8 := by cases fl <;> decide
  simp [hmask, BitVec.getLsbD_twoPow, hbit, eq_comm]

/-- Settles O16: a flag write is an `or` with the one-bit mask, or an `and` with its complement. -/
theorem flagWritesTouchOneBit : Obligations.FlagWritesTouchOneBit := by
  intro fl b f k hk
  refine ⟨?_, by decide, by decide, rfl⟩
  cases b with
  | true =>
    simp only [Flag.put, if_true, BitVec.getLsbD_or, Flag.mask_getLsbD]
    split <;> simp [*]
  | false =>
    simp only [Flag.put, Bool.false_eq_true, if_false, BitVec.getLsbD_and, BitVec.getLsbD_not, Flag.mask_getLsbD]
    split <;> simp [*]

end Sys2Proof.Machine
end

section
/-! What an instruction can do to the state (`10_state.md`), said once for the whole catalog: `exec_completes` gives every
instruction one of the effects listed in `Effect` and says where `pc` ends. The statements about every instruction are read
off it. -/

namespace Sys2Proof.Machine

/-! ### The storage bits of `F` (`10_state.md` rule R24) -/

/-- Bits 5 and 3 of a flags byte. -/
def storageBits (f : Byte) : Bool × Bool := (f.getLsbD 5, f.getLsbD 3)

@[simp] theorem storageBits_put (fl : Flag) (b : Bool) (f : Byte) : storageBits (fl.put b f) = storageBits f := by
  simp [storageBits]

@[simp] theorem storageBits_incFlags (old res f : Byte) : storageBits (incFlags old res f) = storageBits f := by
  simp [incFlags]

@[simp] theorem storageBits_decFlags (old res f : Byte) : storageBits (decFlags old res f) = storageBits f := by
  simp [decFlags]

@[simp] theorem storageBits_incPairFlags (f : Byte) : storageBits (incPairFlags f) = storageBits f := by
  simp [incPairFlags]

@[simp] theorem storageBits_decPairFlags (f : Byte) : storageBits (decPairFlags f) = storageBits f := by
  simp [decPairFlags]

@[simp] theorem storageBits_addPairFlags (a b : Word) (f : Byte) :
    storageBits (addPairFlags a b f) = storageBits f := by simp [addPairFlags]

@[simp] theorem storageBits_shiftFlags (out : Bool) (f : Byte) : storageBits (shiftFlags out f) = storageBits f := by
  simp [shiftFlags]

@[simp] theorem storageBits_setZSP (res v f : Byte) : storageBits (setZSP res v f) = storageBits f := by
  simp [setZSP]

@[simp] theorem storageBits_andFlags (res v f : Byte) : storageBits (andFlags res v f) = storageBits f := by
  simp [andFlags]

@[simp] theorem storageBits_orFlags (res v f : Byte) : storageBits (orFlags res v f) = storageBits f := by
  simp [orFlags]

/-! ### Updates of registers alone -/

/-- The two states differ in the main bank and `IX` at most, and agree in bits 5 and 3 of `F`. -/
inductive RegsOnly (s : State) : State → Prop where
  | mk (main : Bank) (ixh ixl : Byte) (storage : storageBits main.f = storageBits s.main.f) :
      RegsOnly s { s with main := main, ixh := ixh, ixl := ixl }

namespace RegsOnly

theorem refl (s : State) : RegsOnly s s := .mk s.main s.ixh s.ixl rfl

theorem setReg (s : State) (r : Reg) (v : Byte) : RegsOnly s (s.setReg r v) :=
  .mk (s.main.set r v) s.ixh s.ixl (by rw [Bank.set_f])

/-- A pair other than `AF` is written without the flags. -/
theorem setPair (s : State) {p : Pair} (hp : p ≠ .AF) (v : Word) : RegsOnly s (s.setPair p v) := by
  cases p with
  | AF => exact absurd rfl hp
  | IX => exact .mk s.main (hiByte v) (loByte v) rfl
  | BC => exact .mk { s.main with b := hiByte v, c := loByte v } s.ixh s.ixl rfl
  | DE => exact .mk { s.main with d := hiByte v, e := loByte v } s.ixh s.ixl rfl
  | HL => exact .mk { s.main with h := hiByte v, l := loByte v } s.ixh s.ixl rfl

/-- A register update may be followed by a flag computation on the old flags. -/
theorem setF {s u : State} (h : RegsOnly s u) {f : Byte} (hf : storageBits f = storageBits s.main.f) :
    RegsOnly s (u.setF f) := by
  cases h with
  | mk main ixh ixl _ => exact .mk { main with f := f } ixh ixl hf

theorem exchangeDEHL (s : State) : RegsOnly s s.exchangeDEHL := .mk s.exchangeDEHL.main s.ixh s.ixl rfl

theorem pc_eq {s u : State} (h : RegsOnly s u) : u.pc = s.pc := by
  cases h; rfl

end RegsOnly

theorem rr_pair_ne_AF (p : Rr) : p.pair ≠ .AF := by cases p <;> nofun

/-! ### The effects -/

/-- The forms that push where they complete or are taken (`42_stack.md` rule R150, `45_control.md` rules R193, R194). -/
def IsPushForm (i : Instr) : Prop :=
  (∃ q, i = .push_qq q) ∨ i = .push_IX ∨ ∃ o1 o2, i = .call_nn o1 o2 ∨ ∃ cc, i = .call_cc o1 o2 cc

/-- The forms that pop where they complete or are taken (`42_stack.md` rule R150, `45_control.md` rules R195, R196). -/
def IsPopForm (i : Instr) : Prop := (∃ q, i = .pop_qq q) ∨ i = .pop_IX ∨ i = .ret ∨ ∃ cc, i = .ret_cc cc

/-- `u` is what instruction `i` makes of `s`, up to `pc` and the reported cost. -/
inductive Effect : Instr → State → State → Prop where
  /-- Loads, arithmetic, shifts, and the transfers that do not touch the stack. -/
  | regs {i : Instr} {s u : State} (h : RegsOnly s u) : Effect i s u
  /-- One byte stored (`20_memory.md` rule R52). -/
  | store {i : Instr} {s : State} {a : Word} (v : Byte) (ha : storesTo i s a = true) : Effect i s (s.writeByte a v)
  /-- `PUSH`, and a `CALL` that is taken (`42_stack.md` rule R150). -/
  | push {i : Instr} {s : State} (v : Word) (hi : IsPushForm i)
      (ha : ∀ a, s.pushes a = true → storesTo i s a = true) : Effect i s (s.push16 v)
  /-- `POP` of a pair other than `AF` (`42_stack.md` rule R152), and a `RET` that is taken (`45_control.md` rule R195). -/
  | pop {i : Instr} {s u : State} (hi : IsPopForm i) (hu : RegsOnly s.pop16.2 u) : Effect i s u
  | popAF {s : State} (v : Word) : Effect .pop_AF s (s.pop16.2.setPair .AF v)
  | exchangeAF {s : State} : Effect .ex_AF s s.exchangeAF
  | exchangeBanks {s : State} : Effect .exx s s.exchangeBanks
  /-- All passes of `LDIR` (`47_block_io_system.md` rule R220). -/
  | copy {s : State} : Effect .ldir s (State.copyOne^[blockCount (s.pair .BC)] s)
  | portWrite {s : State} (r : Reg) (port : Word) (v : Byte) : Effect (.out_r r) s (s.portWrite port v)
  | portRead {s : State} (port : Word) (v : Byte) : Effect .in_A_iC s ((s.portRead port v).setReg .A v)
  /-- `DI`, `EI` (`10_state.md` rule R33). -/
  | interrupts {i : Instr} {s : State} (on : Bool) : Effect i s { s with iff1 := on, iff2 := on }
  | intMode {i : Instr} {s : State} (m : IntMode) : Effect i s { s with im := m }

/-- `pc` is written by the end of an instruction and by nothing before it (`10_state.md` rule R28). -/
theorem Effect.pc_eq {i : Instr} {s u : State} (h : Effect i s u) : u.pc = s.pc := by
  cases h with
  | regs h => exact h.pc_eq
  | pop _ h => rw [h.pc_eq, State.pop16_eq]
  | popAF => rw [State.setPair_pc, State.pop16_eq]
  | copy => rw [State.copyOne_iterate_frame]
  | store | push | exchangeAF | exchangeBanks | portWrite | portRead | interrupts | intMode => rfl

/-- `t` is an end state of `i` run in `s`: an effect, then a target in `pc`, which is the next instruction where `i` is
no transfer (`10_state.md` rule R28). -/
inductive Completes (i : Instr) (s : State) : State → Prop where
  | mk {u : State} (effect : Effect i s u) {target : Word} (cost : Nat)
      (hpc : isTransfer i = true ∨ target = s.pc + BitVec.ofNat 16 (encode i).length) :
      Completes i s (u.jump target cost)

section
variable {i : Instr} {s u : State}

theorem Completes.transfer (ht : isTransfer i = true) (h : Effect i s u) (target : Word) (cost : Nat) :
    Completes i s (u.jump target cost) := .mk h cost (.inl ht)

/-- Retire goes on to the next instruction where the format has the length of the encoding (`30_encoding.md` rule R84). -/
theorem Completes.retire {fmt : Format} (hlen : (encode i).length = fmt.length) (h : Effect i s u) (cost : Nat) :
    Completes i s (u.retire fmt cost) := .mk h cost (.inr (by rw [State.pcNext, h.pc_eq, hlen]))

theorem jumpIf_completes (ht : isTransfer i = true) (h : RegsOnly s u) (took : Bool) (target : Word) (fmt : Format)
    (cost : BranchCost) : ∃ t, jumpIf took target fmt cost u = .next t ∧ Completes i s t := by
  cases took
  · exact ⟨_, rfl, .transfer ht (.regs h) _ _⟩
  · exact ⟨_, rfl, .transfer ht (.regs h) _ _⟩

end

/-! ### Lengths of the logical operations' encodings (`30_encoding.md` rule R80) -/

theorem encode_length_and_s (x : Src) : (encode (.and_s x)).length = 1 := by
  rcases x with r | _ <;> [cases r; skip] <;> rfl

theorem encode_length_xor_s (x : Src) : (encode (.xor_s x)).length = 1 := by
  rcases x with r | _ <;> [cases r; skip] <;> rfl

theorem encode_length_or_s (x : Src) : (encode (.or_s x)).length = 1 := by
  rcases x with r | _ <;> [cases r; skip] <;> rfl

/-- Every instruction completes in every state, with one of the effects above. -/
theorem exec_completes (i : Instr) (s : State) : ∃ t, exec i s = .next t ∧ Completes i s t := by
  induction i using Instr.byShape with
  | ld_rr_nn o1 o2 p =>
    exact ⟨_, exec_ld_rr_nn s o1 o2 p, .retire (by cases p <;> rfl) (.regs (.setPair s (rr_pair_ne_AF p) _)) _⟩
  | ld_irr_A p =>
    exact ⟨_, exec_ld_irr_A s p, .retire (by cases p <;> rfl) (.store _ (by simp [storesTo_ld_irr_A])) _⟩
  | inc_rr p =>
    exact ⟨_, exec_inc_rr s p, .retire (by cases p <;> rfl)
      (.regs (.setF (.setPair s (rr_pair_ne_AF p) _) (by simp))) _⟩
  | inc_r r => exact ⟨_, exec_inc_r s r, .retire (by cases r <;> rfl) (.regs (.setF (.setReg s r _) (by simp))) _⟩
  | dec_r r => exact ⟨_, exec_dec_r s r, .retire (by cases r <;> rfl) (.regs (.setF (.setReg s r _) (by simp))) _⟩
  | ld_r_n o1 r => exact ⟨_, exec_ld_r_n s o1 r, .retire (by cases r <;> rfl) (.regs (.setReg s r _)) _⟩
  | rlca => exact ⟨_, rfl, .retire rfl (.regs (.setF (.setReg s .A _) (by simp))) _⟩
  | ex_AF => exact ⟨_, rfl, .retire rfl .exchangeAF _⟩
  | add_HL_rr p =>
    exact ⟨_, exec_add_HL_rr s p, .retire (by cases p <;> rfl) (.regs (.setF (.setPair s (by decide) _) (by simp))) _⟩
  | ld_A_irr p => exact ⟨_, exec_ld_A_irr s p, .retire (by cases p <;> rfl) (.regs (.setReg s .A _)) _⟩
  | dec_rr p =>
    exact ⟨_, exec_dec_rr s p, .retire (by cases p <;> rfl)
      (.regs (.setF (.setPair s (rr_pair_ne_AF p) _) (by simp))) _⟩
  | djnz_e o1 => exact jumpIf_completes rfl (.setReg s .B _) _ _ _ _
  | jr_e o1 => exact ⟨_, rfl, .transfer rfl (.regs (.refl s)) _ _⟩
  | jr_cc o1 cc =>
    rw [exec_jr_cc]
    exact jumpIf_completes (isTransfer_jr_cc o1 cc) (.refl s) _ _ _ _
  | ld_inn_HL o1 o2 => exact ⟨_, rfl, .retire rfl (.store _ (beq_self_eq_true _)) _⟩
  | ld_HL_inn o1 o2 => exact ⟨_, rfl, .retire rfl (.regs (.setReg s .L _)) _⟩
  | ld_inn_A o1 o2 => exact ⟨_, rfl, .retire rfl (.store _ (beq_self_eq_true _)) _⟩
  | ld_r_r r r' =>
    exact ⟨_, exec_ld_r_r s r r', .retire (by cases r <;> cases r' <;> rfl) (.regs (.setReg s r _)) _⟩
  | ld_r_iHL r => exact ⟨_, exec_ld_r_iHL s r, .retire (by cases r <;> rfl) (.regs (.setReg s r _)) _⟩
  | ld_iHL_r r =>
    exact ⟨_, exec_ld_iHL_r s r, .retire (by cases r <;> rfl) (.store _ (by simp [storesTo_ld_iHL_r])) _⟩
  | sub_r r => exact ⟨_, exec_sub_r s r, .retire (by cases r <;> rfl) (.regs (.setF (.setReg s .A _) (by simp))) _⟩
  | sbc_A_r r =>
    exact ⟨_, exec_sbc_A_r s r, .retire (by cases r <;> rfl) (.regs (.setF (.setReg s .A _) (by simp))) _⟩
  | and_s x =>
    exact ⟨_, exec_and_s s x, .retire (encode_length_and_s x) (.regs (.setF (.setReg s .A _) (by simp))) _⟩
  | xor_s x =>
    exact ⟨_, exec_xor_s s x, .retire (encode_length_xor_s x) (.regs (.setF (.setReg s .A _) (by simp))) _⟩
  | or_s x =>
    exact ⟨_, exec_or_s s x, .retire (encode_length_or_s x) (.regs (.setF (.setReg s .A _) (by simp))) _⟩
  | cp_r r => exact ⟨_, exec_cp_r s r, .retire (by cases r <;> rfl) (.regs (.setF (.refl s) (by simp))) _⟩
  | ret_cc cc =>
    rw [exec_ret_cc]
    have ht := isTransfer_ret_cc cc
    cases s.cond cc
    · exact ⟨_, rfl, .transfer ht (.regs (.refl s)) _ _⟩
    · exact ⟨_, rfl, .transfer ht (.pop (.inr (.inr (.inr ⟨cc, rfl⟩))) (.refl _)) _ _⟩
  | pop_qq q =>
    refine ⟨_, exec_pop_qq s q, .retire (by cases q <;> rfl) ?_ _⟩
    cases q with
    | AF => exact .popAF _
    | BC | DE | HL => exact .pop (.inl ⟨_, rfl⟩) (.setPair _ (by decide) _)
  | jp_cc o1 o2 cc =>
    rw [exec_jp_cc]
    exact jumpIf_completes (isTransfer_jp_cc o1 o2 cc) (.refl s) _ _ _ _
  | jp_nn o1 o2 => exact ⟨_, rfl, .transfer rfl (.regs (.refl s)) _ _⟩
  | call_cc o1 o2 cc =>
    rw [exec_call_cc]
    have ht := isTransfer_call_cc o1 o2 cc
    have hst := storesTo_call_cc s o1 o2 cc
    cases hc : s.cond cc
    · exact ⟨_, rfl, .transfer ht (.regs (.refl s)) _ _⟩
    · exact ⟨_, rfl, .transfer ht (.push _ (.inr (.inr ⟨o1, o2, .inr ⟨cc, rfl⟩⟩)) (by simp [hst, hc])) _ _⟩
  | push_qq q =>
    exact ⟨_, exec_push_qq s q, .retire (by cases q <;> rfl) (.push _ (.inl ⟨q, rfl⟩) (by simp [storesTo_push_qq])) _⟩
  | ret => exact ⟨_, rfl, .transfer rfl (.pop (.inr (.inr (.inl rfl))) (.refl _)) _ _⟩
  | call_nn o1 o2 =>
    exact ⟨_, rfl, .transfer rfl (.push _ (.inr (.inr ⟨o1, o2, .inl rfl⟩)) fun _ h => h) _ _⟩
  | exx => exact ⟨_, rfl, .retire rfl .exchangeBanks _⟩
  | ex_DE_HL => exact ⟨_, rfl, .retire rfl (.regs (.exchangeDEHL s)) _⟩
  | di => exact ⟨_, rfl, .retire rfl (.interrupts false) _⟩
  | ei => exact ⟨_, rfl, .retire rfl (.interrupts true) _⟩
  | cp_n o1 => exact ⟨_, rfl, .retire rfl (.regs (.setF (.refl s) (by simp))) _⟩
  | out_r r => exact ⟨_, exec_out_r s r, .retire (by cases r <;> rfl) (.portWrite r _ _) _⟩
  | im_n m => exact ⟨_, exec_im_n s m, .retire (by cases m <;> rfl) (.intMode m) _⟩
  | in_A_iC => exact ⟨_, rfl, .retire rfl (.portRead _ _) _⟩
  | ldir => exact ⟨_, copyBlock_eq s, .retire rfl .copy _⟩
  | srl_r r => exact ⟨_, exec_srl_r s r, .retire (by cases r <;> rfl) (.regs (.setF (.setReg s r _) (by simp))) _⟩
  | add_IX_pp p =>
    exact ⟨_, exec_add_IX_pp s p, .retire (by cases p <;> rfl) (.regs (.setF (.setPair s (by decide) _) (by simp))) _⟩
  | ld_IX_nn o1 o2 => exact ⟨_, rfl, .retire rfl (.regs (.setPair s (by decide) _)) _⟩
  | ld_inn_IX o1 o2 => exact ⟨_, rfl, .retire rfl (.store _ (beq_self_eq_true _)) _⟩
  | inc_IX => exact ⟨_, rfl, .retire rfl (.regs (.setF (.setPair s (by decide) _) (by simp))) _⟩
  | ld_IX_inn o1 o2 => exact ⟨_, rfl, .retire rfl (.regs (.mk s.main s.ixh _ rfl)) _⟩
  | dec_IX => exact ⟨_, rfl, .retire rfl (.regs (.setF (.setPair s (by decide) _) (by simp))) _⟩
  | pop_IX => exact ⟨_, rfl, .retire rfl (.pop (.inr (.inl rfl)) (.setPair _ (by decide) _)) _⟩
  | push_IX => exact ⟨_, rfl, .retire rfl (.push _ (.inr (.inl rfl)) fun _ h => h) _⟩

/-- All that is known of a completed instruction. -/
theorem completes_of_exec {i : Instr} {s t : State} (h : exec i s = .next t) : Completes i s t := by
  obtain ⟨u, hu, hc⟩ := exec_completes i s
  rw [hu] at h
  cases h
  exact hc

end Sys2Proof.Machine
end

section
/-! The invariant of the machine, kept by every step, and met by every state a run reaches (`10_state.md` rules R29, R32, R33, R37). -/

namespace Sys2Proof.Machine

/-! ### What no instruction changes -/

/-- No instruction changes the configuration or the fatal-stop record (`00_scope.md` rule R5, `60_exceptions.md` rule R261). -/
theorem Effect.cfg_stop {i : Instr} {s u : State} (h : Effect i s u) : u.cfg = s.cfg ∧ u.stop = s.stop := by
  cases h with
  | regs h => cases h; exact ⟨rfl, rfl⟩
  | pop _ h => cases h; exact ⟨rfl, rfl⟩
  | popAF => exact ⟨rfl, rfl⟩
  | copy => rw [State.copyOne_iterate_frame]; exact ⟨rfl, rfl⟩
  | store | push | exchangeAF | exchangeBanks | portWrite | portRead | interrupts | intMode => exact ⟨rfl, rfl⟩

/-! ### The stack pointer stays odd -/

theorem sub_two_bit0 (w : Word) : (w - 2).getLsbD 0 = w.getLsbD 0 := by
  simp only [BitVec.getLsbD, Nat.testBit_zero, decide_eq_decide]
  bv_omega

theorem add_two_bit0 (w : Word) : (w + 2).getLsbD 0 = w.getLsbD 0 := by
  simp only [BitVec.getLsbD, Nat.testBit_zero, decide_eq_decide]
  bv_omega

/-! ### The invariant across the operations -/

namespace State.Inv

variable {s u : State}

theorem regsOnly (h : s.Inv) (hu : RegsOnly s u) : u.Inv := by
  cases hu
  exact ⟨h.memory, h.flipFlops, h.iyHigh, h.iyLow, h.stack⟩

theorem pop16 (h : s.Inv) : s.pop16.2.Inv := by
  rw [pop16_eq]
  exact ⟨h.memory, h.flipFlops, h.iyHigh, h.iyLow, (add_two_bit0 s.sp).trans h.stack⟩

theorem push16 (h : s.Inv) (v : Word) : (s.push16 v).Inv :=
  ⟨wf_push16 v h.memory, h.flipFlops, h.iyHigh, h.iyLow, by rw [push16_sp, sub_two_bit0, h.stack]⟩

theorem writeByte (h : s.Inv) (a : Word) (v : Byte) : (s.writeByte a v).Inv :=
  ⟨wf_writeByte a v h.memory, h.flipFlops, h.iyHigh, h.iyLow, h.stack⟩

theorem copyOne (h : s.Inv) : s.copyOne.Inv :=
  ⟨wf_copyOne h.memory, h.flipFlops, h.iyHigh, h.iyLow, h.stack⟩

theorem jump (h : s.Inv) (target : Word) (cost : Nat) : (s.jump target cost).Inv :=
  ⟨h.memory, h.flipFlops, h.iyHigh, h.iyLow, h.stack⟩

theorem placeBytes (h : s.Inv) (a : Word) (bs : List Byte) : (s.placeBytes a bs).Inv := by
  induction bs generalizing s a with
  | nil => exact h
  | cons b bs ih => exact ih (h.writeByte a b) (a + 1)

/-- Every effect of an instruction keeps the invariant. -/
theorem effect {i : Instr} (h : s.Inv) (hu : Effect i s u) : u.Inv := by
  cases hu with
  | regs hr => exact h.regsOnly hr
  | store v _ => exact h.writeByte _ v
  | push v _ _ => exact h.push16 v
  | pop _ hr => exact h.pop16.regsOnly hr
  | popAF v =>
    have hp := h.pop16
    exact ⟨hp.memory, hp.flipFlops, hp.iyHigh, hp.iyLow, hp.stack⟩
  | copy => exact copyOne_iterate_keeps (fun _ h => h.copyOne) _ s h
  | interrupts on => exact ⟨h.memory, rfl, h.iyHigh, h.iyLow, h.stack⟩
  | exchangeAF | exchangeBanks | portWrite | portRead | intMode =>
    exact ⟨h.memory, h.flipFlops, h.iyHigh, h.iyLow, h.stack⟩

end State.Inv

/-! ### Steps and runs -/

/-- A step that completes is the execution of some instruction, in a state that records no stop. -/
theorem step_eq_next {s t : State} (h : step s = .next t) : s.stop = none ∧ ∃ i, exec i s = .next t := by
  unfold step at h
  split at h
  · cases h
  · next hs =>
    split at h
    · next i _ => exact ⟨hs, i, h⟩
    · cases h

/-- What every step keeps, every run keeps. -/
theorem RunsTo.keeps {p : State → Prop} (hp : ∀ s t, p s → step s = .next t → p t) {n : Nat} {s t : State}
    (hrun : RunsTo n s t) (hs : p s) : p t := by
  induction n generalizing s with
  | zero => exact hrun ▸ hs
  | succ n ih =>
    obtain ⟨u, hu, hrest⟩ := hrun
    exact ih hrest (hp s u hs hu)

/-- Settles O3: the instruction's effect keeps the invariant, and `pc` and the cost are outside it. -/
theorem stepKeepsInvariant : Obligations.StepKeepsInvariant := by
  intro s t hs hstep
  obtain ⟨-, i, hi⟩ := step_eq_next hstep
  obtain ⟨heffect, cost, -⟩ := completes_of_exec hi
  exact (hs.effect heffect).jump _ cost

/-- A step keeps the configuration and leaves no stop recorded. -/
theorem step_keeps_cfg_stop {s t : State} (h : step s = .next t) : t.cfg = s.cfg ∧ t.stop = none := by
  obtain ⟨hstop, i, hi⟩ := step_eq_next h
  obtain ⟨heffect, cost, -⟩ := completes_of_exec hi
  obtain ⟨hcfg, hs⟩ := heffect.cfg_stop
  exact ⟨hcfg, hs.trans hstop⟩

/-- Settles O4, by induction on the run: placement before it and every step of it keep the three facts. -/
theorem everyReachedStateMeetsInvariant : Obligations.EveryReachedStateMeetsInvariant := by
  intro cfg at_ image start n t hrun
  refine hrun.keeps (p := fun s => s.Inv ∧ s.stop = none ∧ s.cfg = cfg) ?_ ?_
  · rintro s u ⟨hinv, -, hcfg⟩ hstep
    obtain ⟨hcfg', hstop⟩ := step_keeps_cfg_stop hstep
    exact ⟨stepKeepsInvariant s u hinv hstep, hstop, hcfg'.trans hcfg⟩
  · have hinv := (resetMeetsInvariant cfg).placeBytes at_ image
    refine ⟨⟨hinv.memory, hinv.flipFlops, hinv.iyHigh, hinv.iyLow, hinv.stack⟩, ?_, ?_⟩
    · rw [State.run_stop, State.placeBytes_eq]
      rfl
    · rw [State.run_cfg, State.placeBytes_cfg]
      rfl

end Sys2Proof.Machine
end

section
/-! What a statement about every instruction says of memory, `sp`, `pc`, the flags' storage bits, the shadows and the ports
(`10_state.md`, `20_memory.md`), read off the effects. -/

namespace Sys2Proof.Machine

/-! ### The program counter, memory and the stack pointer -/

/-- Settles O52: where `pc` ends is part of what `completes_of_exec` says. -/
theorem pcAdvancesByLength : Obligations.PcAdvancesByLength := by
  intro i s t hi h
  obtain ⟨-, cost, hpc⟩ := completes_of_exec h
  rcases hpc with htransfer | htarget
  · rw [hi] at htransfer
    cases htransfer
  · exact htarget

/-- The bytes an effect changes are ones the instruction stores to. -/
theorem Effect.readByte_eq {i : Instr} {s u : State} (h : Effect i s u) {a : Word} (ha : storesTo i s a = false) :
    u.readByte a = s.readByte a := by
  cases h with
  | regs h => cases h; rfl
  | store v hst =>
    rw [State.writeByte_readByte, if_neg]
    rintro rfl
    rw [ha] at hst
    cases hst
  | push v _ hst =>
    have hpush : s.pushes a = false := by
      by_contra hp
      rw [hst a (by simpa using hp)] at ha
      cases ha
    simp only [State.pushes, Bool.or_eq_false_iff, beq_eq_false_iff_ne] at hpush
    rw [State.push16_readByte, if_neg hpush.2, if_neg hpush.1]
  | pop _ h => cases h; rfl
  | copy =>
    rw [State.copyOne_iterate_readByte]
    exact copyBytes_outside _ _ _ _ (blockCount_le _) _ (of_decide_eq_false ha)
  | popAF | exchangeAF | exchangeBanks | portWrite | portRead | interrupts | intMode => rfl

/-- Settles O50: the end of an instruction leaves memory to its effect. -/
theorem memoryChangesOnlyWhereStored : Obligations.MemoryChangesOnlyWhereStored := by
  intro i s t a h ha
  obtain ⟨heffect, cost, -⟩ := completes_of_exec h
  exact heffect.readByte_eq ha

/-- A push moves `sp` down by two, a pop up by two, and no other effect moves it (`42_stack.md` rule R150). -/
theorem Effect.sp_cases {i : Instr} {s u : State} (h : Effect i s u) :
    u.sp = s.sp ∨ u.sp = s.sp - 2 ∧ IsPushForm i ∨ u.sp = s.sp + 2 ∧ IsPopForm i := by
  cases h with
  | regs h => cases h; exact .inl rfl
  | push v hi _ => exact .inr (.inl ⟨s.push16_sp v, hi⟩)
  | pop hi h => cases h; exact .inr (.inr ⟨by rw [State.pop16_eq], hi⟩)
  | popAF v => exact .inr (.inr ⟨by rw [State.setPair_sp, State.pop16_eq], .inl ⟨.AF, rfl⟩⟩)
  | copy => exact .inl (by rw [State.copyOne_iterate_frame])
  | store | exchangeAF | exchangeBanks | portWrite | portRead | interrupts | intMode => exact .inl rfl

/-- Settles O51: the three cases of the effect on `sp`. -/
theorem stackPointerMovesByTwo : Obligations.StackPointerMovesByTwo := by
  intro i s t h
  obtain ⟨heffect, cost, -⟩ := completes_of_exec h
  rw [State.jump_sp]
  rcases heffect.sp_cases with hsp | ⟨hsp, hpush⟩ | ⟨hsp, hpop⟩
  · exact ⟨.inl hsp, fun hne => absurd hsp hne⟩
  · refine ⟨.inr (.inl hsp), fun _ => ?_⟩
    rcases hpush with ⟨q, hq⟩ | hix | hcall
    · exact .inl ⟨q, .inl hq⟩
    · exact .inr (.inl hix)
    · exact .inr (.inr (.inr (.inr (.inl hcall))))
  · refine ⟨.inr (.inr hsp), fun _ => ?_⟩
    rcases hpop with ⟨q, hq⟩ | hix | hret | hcc
    · exact .inl ⟨q, .inr hq⟩
    · exact .inr (.inr (.inl hix))
    · exact .inr (.inr (.inr (.inl hret)))
    · exact .inr (.inr (.inr (.inr (.inr hcc))))

/-! ### The flags' storage bits, the shadow bank and the ports -/

/-- Only `POP AF` and `EX AF,AF'` put a whole new byte into `F` (`10_state.md` rule R24). -/
theorem Effect.storageBits_eq {i : Instr} {s u : State} (h : Effect i s u) (hpop : i ≠ .pop_AF) (hex : i ≠ .ex_AF) :
    storageBits u.main.f = storageBits s.main.f := by
  cases h with
  | regs h => cases h with | mk _ _ _ hf => exact hf
  | pop _ h => cases h with | mk _ _ _ hf => exact hf
  | popAF => exact absurd rfl hpop
  | exchangeAF => exact absurd rfl hex
  | copy => rw [(State.copyOne_iterate_AF _ s).2]
  | store | push | exchangeBanks | portWrite | portRead | interrupts | intMode => rfl

/-- Only the exchanges reach the shadow bank, and only `EX AF,AF'` its `A'` and `F'` (`10_state.md` rule R25). -/
theorem Effect.shadow_eq {i : Instr} {s u : State} (h : Effect i s u) (hex : i ≠ .ex_AF) :
    u.shadow.a = s.shadow.a ∧ u.shadow.f = s.shadow.f ∧ (i ≠ .exx → u.shadow = s.shadow) := by
  cases h with
  | exchangeAF => exact absurd rfl hex
  | exchangeBanks => exact ⟨rfl, rfl, fun hexx => absurd rfl hexx⟩
  | regs h => cases h; exact ⟨rfl, rfl, fun _ => rfl⟩
  | pop _ h => cases h; exact ⟨rfl, rfl, fun _ => rfl⟩
  | copy => rw [State.copyOne_iterate_frame]; exact ⟨rfl, rfl, fun _ => rfl⟩
  | store | push | popAF | portWrite | portRead | interrupts | intMode => exact ⟨rfl, rfl, fun _ => rfl⟩

/-- Settles O53: the effects on `F` and on the shadow bank. -/
theorem whoWritesFlagStorageAndShadows : Obligations.WhoWritesFlagStorageAndShadows := by
  intro i s t h
  obtain ⟨heffect, cost, -⟩ := completes_of_exec h
  exact ⟨fun hpop hex => Prod.mk.inj (heffect.storageBits_eq hpop hex), heffect.shadow_eq⟩

/-- The two port forms add one call to the history, and no other effect reaches the ports (`20_memory.md` rules R57, R59). -/
theorem Effect.ports_cases {i : Instr} {s u : State} (h : Effect i s u) :
    (u.ports = s.ports ∧ u.answers = s.answers ∧ u.draws = s.draws) ∨
    ((∃ r, i = .out_r r) ∨ i = .in_A_iC) ∧ ∃ call, u.ports = s.ports ++ [call] := by
  cases h with
  | portWrite r port v => exact .inr ⟨.inl ⟨r, rfl⟩, _, rfl⟩
  | portRead port v => exact .inr ⟨.inr rfl, _, rfl⟩
  | regs h => cases h; exact .inl ⟨rfl, rfl, rfl⟩
  | pop _ h => cases h; exact .inl ⟨rfl, rfl, rfl⟩
  | copy => rw [State.copyOne_iterate_frame]; exact .inl ⟨rfl, rfl, rfl⟩
  | store | push | popAF | exchangeAF | exchangeBanks | interrupts | intMode => exact .inl ⟨rfl, rfl, rfl⟩

/-- Settles O55: the two cases of the effect on the ports. -/
theorem portsReachedByTwoFormsOnly : Obligations.PortsReachedByTwoFormsOnly := by
  intro i s t h
  obtain ⟨heffect, cost, -⟩ := completes_of_exec h
  refine ⟨?_, fun hout hin => ?_, heffect.cfg_stop⟩
  · rcases heffect.ports_cases with ⟨hports, -⟩ | ⟨-, call, hports⟩
    · exact ⟨[], hports.trans (List.append_nil _).symm, Nat.zero_le 1⟩
    · exact ⟨[call], hports, Nat.le_refl 1⟩
  · rcases heffect.ports_cases with hsame | ⟨⟨r, hr⟩ | hi, -⟩
    · exact hsame
    · exact absurd hr (hout r)
    · exact absurd hi hin

/-! ### `RET` after `CALL` (`45_control.md` rules R193, R195) -/

/-- `Pop16` after `Push16` gives the value back and leaves the pushed bytes below `sp` (`42_stack.md` rule R150). -/
theorem State.pop16_push16 (s : State) (v : Word) :
    (s.push16 v).pop16 = (v, { s with mem := (s.push16 v).mem }) := by
  refine Prod.ext (s.push16_pop16 v) ?_
  rw [pop16_eq]
  show { s with mem := (s.push16 v).mem, sp := (s.push16 v).sp + 2 } = _
  rw [push16_sp, BitVec.sub_add_cancel]

/-- A return right after a call goes on after the call, and takes back all the call did outside memory. -/
theorem State.ret_call (s : State) (target : Word) (c c' : Nat) :
    (s.call target c).ret c' = { s with mem := (s.push16 (s.pcNext .B2)).mem, pc := s.pcNext .B2, cycles := c' } := by
  calc (s.call target c).ret c'
    _ = (s.push16 (s.pcNext .B2)).pop16.2.jump (s.push16 (s.pcNext .B2)).pop16.1 c' := rfl
    _ = _ := by rw [pop16_push16]; rfl

/-- Settles O37: the return takes back the call, and the call wrote the two cells below `sp`. -/
theorem returnComesBackFromCall : Obligations.ReturnComesBackFromCall := by
  intro o1 o2 s
  refine ⟨_, _, rfl, rfl, s.ret_call _ _ _, fun a h1 h2 => ?_⟩
  show (s.push16 (s.pcNext .B2)).readByte a = s.readByte a
  rw [State.push16_readByte, if_neg h2, if_neg h1]

end Sys2Proof.Machine
end

section
/-! The state no instruction reads: `iff1`, `iff2`, `im`, `IY` and the reported cost (`10_state.md` rules R32 to R34,
`70_reset_and_hazards.md` rule R300). -/

namespace Sys2Proof.Machine

@[simp] theorem State.withUnread_pair (s : State) (f1 f2 : Bool) (m : IntMode) (yh yl : Byte) (n : Nat) (p : Pair) :
    (s.withUnread f1 f2 m yh yl n).pair p = s.pair p := by cases p <;> rfl

/-- Run with other values in the fields no instruction reads, `op` completes in the same state with those values still there,
and reports the same cost. -/
def IgnoresUnread (op : State → Result) : Prop :=
  ∀ (s : State) (f1 f2 : Bool) (m : IntMode) (yh yl : Byte) (n : Nat), ∃ t,
    op s = .next t ∧ op (s.withUnread f1 f2 m yh yl n) = .next (t.withUnread f1 f2 m yh yl t.cycles)

theorem jumpIf_ignoresUnread (took : Bool) (target : Word) (fmt : Format) (cost : BranchCost) :
    IgnoresUnread (jumpIf took target fmt cost) := by
  intro s f1 f2 m yh yl n
  cases took
  · exact ⟨_, rfl, rfl⟩
  · exact ⟨_, rfl, rfl⟩

theorem callIf_ignoresUnread (took : Bool) (target : Word) : IgnoresUnread (callIf took target) := by
  intro s f1 f2 m yh yl n
  cases took
  · exact ⟨_, rfl, rfl⟩
  · exact ⟨_, rfl, rfl⟩

theorem retIf_ignoresUnread (took : Bool) : IgnoresUnread (retIf took) := by
  intro s f1 f2 m yh yl n
  cases took
  · exact ⟨_, rfl, rfl⟩
  · exact ⟨_, rfl, rfl⟩

/-- What ignores the fields keeps them: with their own values in them the second run is the first. -/
theorem IgnoresUnread.keeps {op : State → Result} (h : IgnoresUnread op) {s t : State} (ht : op s = .next t) :
    t.iff1 = s.iff1 ∧ t.iff2 = s.iff2 ∧ t.im = s.im ∧ t.iyh = s.iyh ∧ t.iyl = s.iyl := by
  obtain ⟨u, hu, hu'⟩ := h s s.iff1 s.iff2 s.im s.iyh s.iyl s.cycles
  have htu : t = u := by injection ht.symm.trans hu
  subst htu
  have hsame : t = t.withUnread s.iff1 s.iff2 s.im s.iyh s.iyl t.cycles := by injection ht.symm.trans hu'
  exact ⟨(congrArg State.iff1 hsame :), (congrArg State.iff2 hsame :), (congrArg State.im hsame :),
    (congrArg State.iyh hsame :), (congrArg State.iyl hsame :)⟩

/-- Every instruction but `DI`, `EI` and `IM n` ignores the fields. -/
theorem exec_ignoresUnread {i : Instr} (hdi : i ≠ .di) (hei : i ≠ .ei) (him : ∀ mode, i ≠ .im_n mode) :
    IgnoresUnread (exec i) := by
  intro s f1 f2 m yh yl n
  induction i using Instr.byShape with
  | ld_rr_nn o1 o2 p => cases p <;> exact ⟨_, rfl, rfl⟩
  | ld_irr_A p => exact ⟨_, exec_ld_irr_A s p, exec_ld_irr_A _ p⟩
  | inc_rr p => cases p <;> exact ⟨_, rfl, rfl⟩
  | inc_r r => exact ⟨_, exec_inc_r s r, exec_inc_r _ r⟩
  | dec_r r => exact ⟨_, exec_dec_r s r, exec_dec_r _ r⟩
  | ld_r_n o1 r => exact ⟨_, exec_ld_r_n s o1 r, exec_ld_r_n _ o1 r⟩
  | rlca => exact ⟨_, rfl, rfl⟩
  | ex_AF => exact ⟨_, rfl, rfl⟩
  | add_HL_rr p => exact ⟨_, exec_add_HL_rr s p, exec_add_HL_rr _ p⟩
  | ld_A_irr p => exact ⟨_, exec_ld_A_irr s p, exec_ld_A_irr _ p⟩
  | dec_rr p => cases p <;> exact ⟨_, rfl, rfl⟩
  | djnz_e o1 => exact jumpIf_ignoresUnread _ _ _ _ (s.setReg .B (s.reg .B - 1)) f1 f2 m yh yl n
  | jr_e o1 => exact ⟨_, rfl, rfl⟩
  | jr_cc o1 cc =>
    rw [exec_jr_cc, exec_jr_cc]
    exact jumpIf_ignoresUnread _ _ _ _ s f1 f2 m yh yl n
  | ld_inn_HL o1 o2 => exact ⟨_, rfl, rfl⟩
  | ld_HL_inn o1 o2 => exact ⟨_, rfl, rfl⟩
  | ld_inn_A o1 o2 => exact ⟨_, rfl, rfl⟩
  | ld_r_r r r' => exact ⟨_, exec_ld_r_r s r r', exec_ld_r_r _ r r'⟩
  | ld_r_iHL r => exact ⟨_, exec_ld_r_iHL s r, exec_ld_r_iHL _ r⟩
  | ld_iHL_r r => exact ⟨_, exec_ld_iHL_r s r, exec_ld_iHL_r _ r⟩
  | sub_r r => exact ⟨_, exec_sub_r s r, exec_sub_r _ r⟩
  | sbc_A_r r => exact ⟨_, exec_sbc_A_r s r, exec_sbc_A_r _ r⟩
  | and_s x => exact ⟨_, exec_and_s s x, exec_and_s _ x⟩
  | xor_s x => exact ⟨_, exec_xor_s s x, exec_xor_s _ x⟩
  | or_s x => exact ⟨_, exec_or_s s x, exec_or_s _ x⟩
  | cp_r r => exact ⟨_, exec_cp_r s r, exec_cp_r _ r⟩
  | ret_cc cc =>
    rw [exec_ret_cc, exec_ret_cc]
    exact retIf_ignoresUnread _ s f1 f2 m yh yl n
  | pop_qq q => cases q <;> exact ⟨_, rfl, rfl⟩
  | jp_cc o1 o2 cc =>
    rw [exec_jp_cc, exec_jp_cc]
    exact jumpIf_ignoresUnread _ _ _ _ s f1 f2 m yh yl n
  | jp_nn o1 o2 => exact ⟨_, rfl, rfl⟩
  | call_cc o1 o2 cc =>
    rw [exec_call_cc, exec_call_cc]
    exact callIf_ignoresUnread _ _ s f1 f2 m yh yl n
  | push_qq q => exact ⟨_, exec_push_qq s q, exec_push_qq _ q⟩
  | ret => exact ⟨_, rfl, rfl⟩
  | call_nn o1 o2 => exact ⟨_, rfl, rfl⟩
  | exx => exact ⟨_, rfl, rfl⟩
  | ex_DE_HL => exact ⟨_, rfl, rfl⟩
  | di => exact absurd rfl hdi
  | ei => exact absurd rfl hei
  | cp_n o1 => exact ⟨_, rfl, rfl⟩
  | out_r r => exact ⟨_, exec_out_r s r, exec_out_r _ r⟩
  | im_n mode => exact absurd rfl (him mode)
  | in_A_iC => exact ⟨_, rfl, rfl⟩
  | ldir =>
    refine ⟨_, copyBlock_eq s, (copyBlock_eq (s.withUnread f1 f2 m yh yl n)).trans ?_⟩
    rw [State.withUnread_pair, State.copyOne_iterate_withUnread]
    rfl
  | srl_r r => exact ⟨_, exec_srl_r s r, exec_srl_r _ r⟩
  | add_IX_pp p => exact ⟨_, exec_add_IX_pp s p, exec_add_IX_pp _ p⟩
  | ld_IX_nn o1 o2 => exact ⟨_, rfl, rfl⟩
  | ld_inn_IX o1 o2 => exact ⟨_, rfl, rfl⟩
  | inc_IX => exact ⟨_, rfl, rfl⟩
  | ld_IX_inn o1 o2 => exact ⟨_, rfl, rfl⟩
  | dec_IX => exact ⟨_, rfl, rfl⟩
  | pop_IX => exact ⟨_, rfl, rfl⟩
  | push_IX => exact ⟨_, rfl, rfl⟩

/-- Settles O54: `DI`, `EI` and `IM n` write constants, and every other instruction ignores the fields. -/
theorem unreadStateInfluencesNothing : Obligations.UnreadStateInfluencesNothing := by
  intro i s f1 f2 m yh yl n
  by_cases hdi : i = .di
  · subst hdi
    exact ⟨_, _, rfl, rfl, rfl, rfl, rfl, rfl, rfl, rfl, .inl rfl, .inl rfl, .inr ⟨rfl, rfl⟩⟩
  by_cases hei : i = .ei
  · subst hei
    exact ⟨_, _, rfl, rfl, rfl, rfl, rfl, rfl, rfl, rfl, .inl rfl, .inl rfl, .inr ⟨rfl, rfl⟩⟩
  by_cases him : ∃ mode, i = .im_n mode
  · obtain ⟨mode, rfl⟩ := him
    exact ⟨_, _, exec_im_n s mode, exec_im_n _ mode, rfl, rfl, rfl, rfl, rfl, rfl, .inr ⟨rfl, rfl⟩, .inr ⟨rfl, rfl⟩,
      .inl rfl⟩
  have hignores := exec_ignoresUnread hdi hei (not_exists.mp him)
  obtain ⟨t, ht, ht'⟩ := hignores s f1 f2 m yh yl n
  obtain ⟨hiff1, hiff2, him', hiyh, hiyl⟩ := hignores.keeps ht
  exact ⟨t, _, ht, ht', rfl, rfl, hiyh, hiyl, rfl, rfl, .inr ⟨hiff1, rfl⟩, .inr ⟨hiff2, rfl⟩, .inr ⟨him', rfl⟩⟩

end Sys2Proof.Machine
end

section
/-! The decoder on the encoding of an instruction (`30_encoding.md` rules R80, R81): the bytes of the encoding decode to the
instruction, whatever the other bytes of the window are. -/

namespace Sys2Proof

/-- Every instruction is its catalog row's shape, filled with its operand bytes (`30_encoding.md` rules R85, R90). -/
theorem catalog_raw (i : Instr) : ∃ shape, catalog i.raw.ns i.raw.op = some shape ∧
    ∀ x y, shape.fill (i.raw.operands.getD 0 x) (i.raw.operands.getD 1 y) = i := by
  cases i <;> exact ⟨_, rfl, fun _ _ => rfl⟩

/-- A byte with a row in the basic namespace selects no other namespace (`30_encoding.md` rule R83). -/
theorem prefixNamespace_of_basic {b : Byte} {shape : Shape} (h : catalog .basic b = some shape) :
    prefixNamespace b = none := by
  unfold prefixNamespace
  have hne (c : Byte) (hc : catalog .basic c = none) : b ≠ c := by
    rintro rfl
    rw [h] at hc
    cases hc
  rw [if_neg (hne _ rfl), if_neg (hne _ rfl), if_neg (hne _ rfl)]

section
variable {r : Raw} {w : Nat → Byte} (hw : ∀ k, k < r.bytes.length → w k = r.bytes.getD k 0)
include hw

/-- The opcode stands after the bytes that select the namespace. -/
theorem Raw.window_op : w r.ns.prefixBytes.length = r.op := by
  rw [hw _ (by simp [Raw.bytes])]
  simp [Raw.bytes]

/-- The operand bytes stand after the opcode; a byte past them is free. -/
theorem Raw.window_operand (k : Nat) :
    r.operands.getD k (w (r.ns.prefixBytes.length + 1 + k)) = w (r.ns.prefixBytes.length + 1 + k) := by
  by_cases hk : k < r.operands.length
  · rw [hw _ (by simp only [Raw.bytes, List.length_append, List.length_cons]; omega)]
    simp [Raw.bytes, hk, Nat.add_assoc, Nat.add_comm 1 k]
  · rw [List.getD_eq_default _ _ (not_lt.mp hk)]

/-- A window that begins with the bytes of a raw instruction gives its row's shape, filled with the two bytes after the opcode. -/
theorem decodeWindow_of_catalog {shape : Shape} (hcat : catalog r.ns r.op = some shape) :
    decodeWindow (w 0) (w 1) (w 2) (w 3) =
      .ok (shape.fill (w (r.ns.prefixBytes.length + 1)) (w (r.ns.prefixBytes.length + 2))) := by
  have hop := Raw.window_op hw
  have hfirst : w 0 = r.bytes.getD 0 0 := hw 0 (by simp [Raw.bytes])
  obtain ⟨ns, op, operands⟩ := r
  rw [← hop] at hcat
  cases ns with
  | basic => exact (decodeWindow_basic (prefixNamespace_of_basic hcat) _ _ _).trans (dispatch_of_catalog hcat _ _)
  | extended | bit | index =>
    exact (decodeWindow_prefixed (by rw [hfirst]; rfl) _ _ _).trans (dispatch_of_catalog hcat _ _)

end

/-- The window that begins with an instruction's encoding decodes to it. -/
theorem decodeWindow_encode {i : Instr} {w : Nat → Byte}
    (hw : ∀ k, k < (encode i).length → w k = (encode i).getD k 0) :
    decodeWindow (w 0) (w 1) (w 2) (w 3) = .ok i := by
  obtain ⟨shape, hcat, hfill⟩ := catalog_raw i
  have hfilled := hfill (w (i.raw.ns.prefixBytes.length + 1)) (w (i.raw.ns.prefixBytes.length + 2))
  rw [Raw.window_operand hw 0, Raw.window_operand hw 1] at hfilled
  rw [decodeWindow_of_catalog hw hcat]
  exact congrArg Except.ok hfilled

end Sys2Proof

namespace Sys2Proof.Machine

/-- Settles O10: fetch's window begins with the encoding, so it decodes to the instruction. -/
theorem stepRunsEncodedInstruction : Obligations.StepRunsEncodedInstruction := by
  intro s i hs hbytes
  exact step_of_fetch_ok hs (decodeWindow_encode (w := s.fetchByte) hbytes)

end Sys2Proof.Machine
end

section
/-! Memory and the ports (`20_memory.md`): fetch after a store (rules R63, R65), the answer of a port read (rule R58), and the ROM
loading contract (rule R62). -/

namespace Sys2Proof.Machine

/-! ### Fetch after a store (`20_memory.md` rules R63, R65) -/

/-- Settles O56: a fetched byte is a byte of memory, at an address a store does not move. -/
theorem fetchSeesEveryStore : Obligations.FetchSeesEveryStore := by
  intro s a v k
  exact s.writeByte_readByte a (s.pc + BitVec.ofNat 16 k) v

/-! ### The answer of a port read (`20_memory.md` rule R58) -/

/-- Where no answer is queued, the oracle answers. -/
theorem State.portAnswer_of_answers_nil {s : State} (h : s.answers = []) (port : Word) :
    s.portAnswer port = Config.portRead s.draws s.ports port := by
  simp only [portAnswer, h]

/-- Where answers are queued, the first of them answers. -/
theorem State.portAnswer_of_answers_cons {s : State} {v : Byte} {rest : List Byte} (h : s.answers = v :: rest)
    (port : Word) : s.portAnswer port = v := by
  simp only [portAnswer, h]

/-- Settles O44: the read is recorded and counted, and its answer is written to `A`. -/
theorem portReadGoesToA : Obligations.PortReadGoesToA := by
  intro s
  refine ⟨rfl, _, rfl, fun hnone => ?_, fun v rest hqueued => ⟨?_, ?_⟩, rfl, rfl, rfl, fun r hr => ?_, rfl, rfl,
    fun _ => rfl⟩
  · exact State.portAnswer_of_answers_nil hnone s.port
  · exact State.portAnswer_of_answers_cons hqueued s.port
  · exact congrArg List.tail hqueued
  · have hA : r ≠ .A := by simpa using hr
    rw [State.retire_reg, State.setReg_reg, if_neg hA, State.portRead_reg]

/-! ### The ROM loading contract (`20_memory.md` rule R62) -/

namespace State

variable {s : State} {rom : List Byte}

theorem placeRom_of_16KiB (h : rom.length = 16384) : s.placeRom rom = .next (s.placeBytes 0x0000 rom) := if_pos h

theorem placeRom_of_32KiB (h : rom.length = 32768) :
    s.placeRom rom = .next ((s.placeBytes 0x0000 (rom.take 16384)).placeBytes 0xC000 (rom.drop 16384)) := by
  rw [placeRom, if_neg (by omega), if_pos h]

theorem placeRom_of_badSize (h16 : rom.length ≠ 16384) (h32 : rom.length ≠ 32768) :
    s.placeRom rom = .refused (.badRomSize rom.length) := by
  rw [placeRom, if_neg h16, if_neg h32]

/-- 16 KiB placed at address 0: byte `i` stands at address `i`, and every address from 0x4000 on reads as before. -/
theorem placeBytes_zero_readByte (h : rom.length = 16384) :
    (∀ i, i < 16384 → (s.placeBytes 0x0000 rom).readByte (BitVec.ofNat 16 i) = rom.getD i 0) ∧
    ∀ a : Word, 16384 ≤ a.toNat → (s.placeBytes 0x0000 rom).readByte a = s.readByte a := by
  have hzero : (0x0000 : Word).toNat = 0 := rfl
  obtain ⟨hplaced, houtside⟩ := s.placeBytes_readByte 0x0000 rom (by omega)
  refine ⟨fun i hi => ?_, fun a ha => houtside a (.inr (by omega))⟩
  simpa using hplaced i (by omega)

/-- 16 KiB placed at 0xC000, up to the end of the space: byte `j` stands at 0xC000 + `j`, and every address below reads as
before. -/
theorem placeBytes_C000_readByte (h : rom.length = 16384) :
    (∀ j, j < 16384 → (s.placeBytes 0xC000 rom).readByte (0xC000 + BitVec.ofNat 16 j) = rom.getD j 0) ∧
    ∀ a : Word, a.toNat < 0xC000 → (s.placeBytes 0xC000 rom).readByte a = s.readByte a := by
  have hbase : (0xC000 : Word).toNat = 0xC000 := rfl
  obtain ⟨hplaced, houtside⟩ := s.placeBytes_readByte 0xC000 rom (by omega)
  exact ⟨fun j hj => hplaced j (by omega), fun a ha => houtside a (.inl (by omega))⟩

end State

/-- Settles O57: each half of a ROM is one placement, and the two halves of 32 KiB stand in disjoint ranges. -/
theorem romPlacement : Obligations.RomPlacement := by
  intro s rom
  refine ⟨fun h16 => ?_, fun h32 => ?_, State.placeRom_of_badSize⟩
  · exact ⟨_, State.placeRom_of_16KiB h16, s.placeBytes_eq _ _, State.placeBytes_zero_readByte h16⟩
  · have htake : (rom.take 16384).length = 16384 := by rw [List.length_take]; omega
    have hdrop : (rom.drop 16384).length = 16384 := by rw [List.length_drop]; omega
    obtain ⟨hfirst, habove⟩ := State.placeBytes_zero_readByte (s := s) htake
    obtain ⟨hsecond, hbelow⟩ :=
      State.placeBytes_C000_readByte (s := s.placeBytes 0x0000 (rom.take 16384)) hdrop
    refine ⟨_, State.placeRom_of_32KiB h32, ?_, fun i hi => ?_, fun j hj => ?_, fun a hlow hhigh => ?_⟩
    · rw [State.placeBytes_eq, State.placeBytes_eq s]
    · have hi' : (BitVec.ofNat 16 i).toNat < 0xC000 := by rw [BitVec.toNat_ofNat]; omega
      rw [hbelow _ hi', hfirst i hi]
      simp [hi]
    · rw [hsecond j hj]
      simp
    · rw [hbelow a hhigh, habove a hlow]

end Sys2Proof.Machine
end

section
/-! The encoding (`30_encoding.md`): the round trip of the encoder and the decoder (rules R80, R81), the unmapped pairs
(rule R95), the byte order of a 16-bit immediate (rule R88) and the conditions (rule R100). -/

namespace Sys2Proof

/-! ### The round trip on a list of bytes (`30_encoding.md` rules R80, R81) -/

/-- Every encoding has an opcode. -/
theorem encode_length_pos (i : Instr) : 0 < (encode i).length := by
  simp [encode, Raw.bytes]

/-- Dispatch looks at no byte past the encoding: at the prefix, where the instruction has one, and at the opcode. -/
theorem dispatchBytes_encode_le (i : Instr) : dispatchBytes ((encode i).getD 0 0) ≤ (encode i).length := by
  obtain ⟨shape, hcat, -⟩ := catalog_raw i
  rw [encode]
  generalize i.raw = r at hcat
  obtain ⟨ns, op, operands⟩ := r
  cases ns with
  | basic =>
    have hfirst : dispatchBytes op = 1 := by simp [dispatchBytes, prefixNamespace_of_basic hcat]
    exact hfirst.trans_le (Nat.le_add_left 1 operands.length)
  | extended | bit | index => exact Nat.le_add_left 2 operands.length

/-- A list of bytes long enough for the instruction its window gives decodes to that instruction. -/
theorem decode_of_decodeWindow {bytes : List Byte} {i : Instr}
    (hwindow : decodeWindow (bytes.getD 0 0) (bytes.getD 1 0) (bytes.getD 2 0) (bytes.getD 3 0) = .ok i)
    (hdispatch : dispatchBytes (bytes.getD 0 0) ≤ bytes.length) (hlen : (encode i).length ≤ bytes.length) :
    decode bytes = .ok (i, bytes.drop (encode i).length) := by
  have hpos := encode_length_pos i
  simp only [decode, hwindow]
  rw [if_neg (by omega), if_neg (by omega)]

/-- Settles O5: the window of the list begins with the encoding, and what is dropped after decoding is the encoding. -/
theorem decodeEncodeRoundTrip : Obligations.DecodeEncodeRoundTrip := by
  intro i rest
  have hbytes (k : Nat) (hk : k < (encode i).length) : (encode i ++ rest).getD k 0 = (encode i).getD k 0 :=
    List.getD_append _ _ _ _ hk
  have hlen : (encode i).length ≤ (encode i ++ rest).length := by simp
  have hdispatch : dispatchBytes ((encode i ++ rest).getD 0 0) ≤ (encode i).length := by
    rw [hbytes 0 (encode_length_pos i)]
    exact dispatchBytes_encode_le i
  have hdecode := decode_of_decodeWindow (decodeWindow_encode hbytes) (hdispatch.trans hlen) hlen
  rwa [List.drop_left] at hdecode

/-- Where Dispatch answers an instruction, the prefix of the namespace, the opcode and the operand bytes begin with its
encoding. -/
theorem encode_prefix_of_dispatch {ns : Namespace} {op o1 o2 : Byte} {i : Instr} (h : dispatch ns op o1 o2 = .ok i) :
    encode i <+: ns.prefixBytes ++ [op, o1, o2] := by
  cases hcat : catalog ns op with
  | none => simp [dispatch_unmapped hcat] at h
  | some shape =>
    obtain rfl : shape.fill o1 o2 = i := by simpa [dispatch_of_catalog hcat] using h
    obtain ⟨row, hmem, rfl, rfl⟩ := catalog_row hcat
    rw [rowsOf_encode ns row hmem o1 o2, List.prefix_append_right_inj, List.prefix_cons_inj]
    exact List.take_prefix _ _

/-- Settles O6: by the namespace the first byte selects. -/
theorem decodedBytesAreTheEncoding : Obligations.DecodedBytesAreTheEncoding := by
  intro b0 b1 b2 b3 i h
  cases hns : prefixNamespace b0 with
  | none =>
    rw [decodeWindow_basic hns] at h
    exact (encode_prefix_of_dispatch h).trans (List.prefix_append [b0, b1, b2] [b3])
  | some ns =>
    rw [decodeWindow_prefixed hns] at h
    have hencode := encode_prefix_of_dispatch h
    rwa [prefixNamespace_eq_some hns] at hencode

/-! ### The unmapped pairs (`30_encoding.md` rule R95) -/

/-- A pair is unmapped where no row of its namespace has the opcode. -/
theorem catalog_eq_none_iff (ns : Namespace) (op : Byte) :
    catalog ns op = none ↔ op ∉ (rowsOf ns).map (·.op) := by
  simp [catalog]

/-- Dispatch rejects exactly the unmapped pairs, each by its own name. -/
theorem dispatch_eq_error_iff {ns : Namespace} {op o1 o2 : Byte} {u : Unmapped} :
    dispatch ns op o1 o2 = .error u ↔ op ∉ (rowsOf ns).map (·.op) ∧ u = ⟨ns, op⟩ := by
  rw [← catalog_eq_none_iff]
  cases hcat : catalog ns op with
  | none => simp [dispatch_unmapped hcat, eq_comm]
  | some shape => simp [dispatch_of_catalog hcat]

/-- After a prefix the second byte is rejected where no row of the selected namespace has it. -/
theorem decodeWindow_prefixed_eq_error_iff {b0 : Byte} {ns : Namespace} (hns : prefixNamespace b0 = some ns)
    (b1 b2 b3 : Byte) :
    decodeWindow b0 b1 b2 b3 = .error ⟨ns, b1⟩ ↔ b1 ∉ (rowsOf ns).map (·.op) := by
  rw [decodeWindow_prefixed hns, dispatch_eq_error_iff, and_iff_left rfl]

/-- A prefix selects another namespace than the basic one (`30_encoding.md` rule R82). -/
theorem prefixNamespace_ne_basic (b : Byte) : prefixNamespace b ≠ some .basic := by
  intro h
  cases prefixNamespace_eq_some h

/-- The first byte is rejected in the basic namespace where it is no prefix and no row of that namespace has it. -/
theorem decodeWindow_eq_basic_error_iff (b0 b1 b2 b3 : Byte) :
    decodeWindow b0 b1 b2 b3 = .error ⟨.basic, b0⟩ ↔
      prefixNamespace b0 = none ∧ b0 ∉ (rowsOf .basic).map (·.op) := by
  cases hns : prefixNamespace b0 with
  | none => rw [decodeWindow_basic hns, dispatch_eq_error_iff, and_iff_left rfl, eq_self, true_and]
  | some ns =>
    have hbasic : Namespace.basic ≠ ns := by
      rintro rfl
      exact prefixNamespace_ne_basic b0 hns
    simp [decodeWindow_prefixed hns, dispatch_eq_error_iff, hbasic]

set_option maxRecDepth 20000 in
/-- Settles O7: the prefixed namespaces list their mapped bytes as rows; the basic one is compared over the 256 bytes. -/
theorem unmappedSets : Obligations.UnmappedSets := by
  intro b0 b1 b2 b3
  refine ⟨(decodeWindow_eq_basic_error_iff b0 b1 b2 b3).trans ?_, ?_, ?_, ?_⟩
  · revert b0
    decide
  · exact decodeWindow_prefixed_eq_error_iff (ns := .extended) rfl b1 b2 b3
  · exact decodeWindow_prefixed_eq_error_iff (ns := .bit) rfl b1 b2 b3
  · exact decodeWindow_prefixed_eq_error_iff (ns := .index) rfl b1 b2 b3

/-! ### Words of the spec (`30_encoding.md` rules R91 to R95) -/

/-- Settles O8: each mapped word is the encoding of its instruction, so the round trip decodes it; the two others have no row. -/
theorem specWordsDecode : Obligations.SpecWordsDecode := by
  have h (i : Instr) : decode (encode i) = .ok (i, []) := by
    simpa using decodeEncodeRoundTrip i []
  exact ⟨h .inc_B, h .add_HL_BC, h (.ld_HL_nn _ _), h .ld_A_B, h .push_BC, h .rlca, h .srl_A, h .and_iHL, h (.cp_n _),
    h (.jp_NZ_nn _ _), h (.djnz_e _), h .ex_AF, h .ldir, h .out_iC_A, h (.ld_inn_IX _ _), rfl, rfl⟩

end Sys2Proof

namespace Sys2Proof.Machine

/-! ### Operands and conditions (`30_encoding.md` rules R88, R100) -/

/-- Settles O14: the order says which of the two bytes is the high one of the joined word. -/
theorem immediateByteOrder : Obligations.ImmediateByteOrder := by
  intro o1 o2 s
  exact ⟨join_toNat o1 o2, join_toNat o2 o1, rfl, rfl⟩

/-- Settles O15: each condition reads one flag, and each flag is one bit of `F`. -/
theorem conditionsTestOneFlagBit : Obligations.ConditionsTestOneFlagBit := by
  intro s
  exact ⟨rfl, rfl, rfl, rfl, rfl, rfl, rfl, rfl⟩

end Sys2Proof.Machine
end

section
/-! Increment, decrement and the 16-bit addition to `HL` (`40_incdec_arith16.md` rules R120 to R124): what each flag computation
writes and keeps, what writing a register or a pair and then `F` leaves alone, and the four statements. -/

namespace Sys2Proof.Machine

/-! ### The flag computations, flag by flag -/

section
variable {old res f : Byte}

theorem incFlags_PV : Flag.get .PV (incFlags old res f) = res.getLsbD 7 := by
  simp [incFlags, BitVec.msb_eq_getLsbD_last]

theorem incFlags_H : Flag.get .H (incFlags old res f) = decide (old.toNat % 16 = 15) := by
  rw [← lowNibble_eq_15]
  simp [incFlags]

theorem incFlags_N : Flag.get .N (incFlags old res f) = false := by
  simp [incFlags]

/-- `INC r` writes no flag but `PV`, `H` and `N`: neither `S` nor `Z` (rule R120). -/
theorem incFlags_get_other {fl : Flag} (h : fl ∉ [Flag.PV, .H, .N]) : fl.get (incFlags old res f) = fl.get f := by
  obtain ⟨hPV, hH, hN⟩ : fl ≠ .PV ∧ fl ≠ .H ∧ fl ≠ .N := by simpa using h
  simp [incFlags, hPV, hH, hN]

theorem decFlags_PV : Flag.get .PV (decFlags old res f) = res.getLsbD 7 := by
  simp [decFlags, BitVec.msb_eq_getLsbD_last]

theorem decFlags_S : Flag.get .S (decFlags old res f) = res.getLsbD 7 := by
  simp [decFlags, BitVec.msb_eq_getLsbD_last]

theorem decFlags_Z : Flag.get .Z (decFlags old res f) = decide (res.toNat = 0) := by
  have hzero : res.toNat = 0 ↔ res = 0 := BitVec.toNat_inj (y := 0)
  simp only [hzero, ← beq_zero]
  simp [decFlags]

theorem decFlags_H : Flag.get .H (decFlags old res f) = decide (old.toNat % 16 = 0) := by
  rw [← lowNibble_eq_0]
  simp [decFlags]

theorem decFlags_N : Flag.get .N (decFlags old res f) = true := by
  simp [decFlags]

/-- `DEC r` writes every flag but `C` (rule R121). -/
theorem decFlags_get_other {fl : Flag} (h : fl ∉ [Flag.S, .Z, .PV, .H, .N]) :
    fl.get (decFlags old res f) = fl.get f := by
  obtain ⟨hS, hZ, hPV, hH, hN⟩ : fl ≠ .S ∧ fl ≠ .Z ∧ fl ≠ .PV ∧ fl ≠ .H ∧ fl ≠ .N := by simpa using h
  simp [decFlags, hS, hZ, hPV, hH, hN]

theorem incPairFlags_N : Flag.get .N (incPairFlags f) = false := by
  simp [incPairFlags]

theorem incPairFlags_get_other {fl : Flag} (h : fl ∉ [Flag.N]) : fl.get (incPairFlags f) = fl.get f := by
  have hN : fl ≠ .N := by simpa using h
  simp [incPairFlags, hN]

theorem decPairFlags_N : Flag.get .N (decPairFlags f) = true := by
  simp [decPairFlags]

theorem decPairFlags_get_other {fl : Flag} (h : fl ∉ [Flag.N]) : fl.get (decPairFlags f) = fl.get f := by
  have hN : fl ≠ .N := by simpa using h
  simp [decPairFlags, hN]

end

section
variable {a b : Word} {f : Byte}

theorem addPairFlags_C : Flag.get .C (addPairFlags a b f) = decide (a.toNat + b.toNat > 0xFFFF) := by
  simp [addPairFlags]

theorem addPairFlags_H : Flag.get .H (addPairFlags a b f) = (a.getLsbD 3 && b.getLsbD 3) := by
  simp [addPairFlags]

theorem addPairFlags_N : Flag.get .N (addPairFlags a b f) = true := by
  simp [addPairFlags]

/-- The 16-bit addition writes no flag but `C`, `H` and `N` (rule R124). -/
theorem addPairFlags_get_other {fl : Flag} (h : fl ∉ [Flag.C, .H, .N]) : fl.get (addPairFlags a b f) = fl.get f := by
  obtain ⟨hC, hH, hN⟩ : fl ≠ .C ∧ fl ≠ .H ∧ fl ≠ .N := by simpa using h
  simp [addPairFlags, hC, hH, hN]

end

/-! ### A write of a register or a pair, then of `F`, then Retire -/

theorem State.setReg_keepsRegs (s : State) (r : Reg) (v : Byte) : KeepsRegs [r] s (s.setReg r v) := by
  intro r' hr'
  have hne : r' ≠ r := by simpa using hr'
  rw [setReg_reg, if_neg hne]

/-- Neither the write of `F` nor Retire touches a general register. -/
theorem KeepsRegs.setF_retire {but : List Reg} {s u : State} (h : KeepsRegs but s u) (f : Byte) (fmt : Format)
    (cost : Nat) : KeepsRegs but s ((u.setF f).retire fmt cost) :=
  fun r hr => (u.setF_reg f r).trans (h r hr)

/-- An instruction that ends by writing `F` keeps the flags the written byte keeps. -/
theorem keepsFlags_setF_retire {but : List Flag} {s : State} {f : Byte}
    (hflags : ∀ fl, fl ∉ but → fl.get f = fl.get s.main.f) (hstorage : storageBits f = storageBits s.main.f)
    (u : State) (fmt : Format) (cost : Nat) : KeepsFlags but s ((u.setF f).retire fmt cost) :=
  ⟨hflags, Prod.mk.inj hstorage⟩

/-- A pair of two general registers, and `F`, lie in the main bank. -/
theorem onlyMain_setPair_setF_retire (s : State) {p : Pair} (hp : p ≠ .IX) (v : Word) (f : Byte) (fmt : Format)
    (cost : Nat) : OnlyMain s (((s.setPair p v).setF f).retire fmt cost) := by
  cases p with
  | IX => exact absurd rfl hp
  | BC | DE | HL | AF => exact ⟨rfl, fun _ => rfl⟩

/-- The register reads as the value written to it. -/
theorem State.setReg_setF_retire_reg (s : State) (r : Reg) (v f : Byte) (fmt : Format) (cost : Nat) :
    (((s.setReg r v).setF f).retire fmt cost).reg r = v := by simp

/-- A pair without `F` reads as the value written to it. -/
theorem State.setPair_setF_retire_pair (s : State) {p : Pair} (hp : p ≠ .AF) (v : Word) (f : Byte) (fmt : Format)
    (cost : Nat) : (((s.setPair p v).setF f).retire fmt cost).pair p = v := by simp [hp]

theorem State.setPair_setF_retire_pc (s : State) (p : Pair) (v : Word) (f : Byte) (cost : Nat) :
    (((s.setPair p v).setF f).retire .B0 cost).pc = s.pc + 1 := by simp [pcNext, Format.length]

theorem rr_pair_ne_IX (p : Rr) : p.pair ≠ .IX := by cases p <;> nofun

/-! ### The statements -/

/-- Settles O17: the register, and the flags of `incFlags`. -/
theorem incRegister : Obligations.IncRegister := by
  intro r s
  refine ⟨by cases r <;> rfl, _, exec_inc_r s r, ?_, ?_, incFlags_H, incFlags_N,
    keepsFlags_setF_retire (fun _ => incFlags_get_other) (storageBits_incFlags _ _ _) _ _ _,
    (s.setReg_keepsRegs r _).setF_retire _ _ _, rfl, rfl, fun _ => rfl⟩
  · rw [State.setReg_setF_retire_reg]
    exact BitVec.toNat_add _ _
  · rw [State.setReg_setF_retire_reg]
    exact incFlags_PV

/-- Settles O18: the register, and the flags of `decFlags`. -/
theorem decRegister : Obligations.DecRegister := by
  intro r s
  refine ⟨by cases r <;> rfl, _, exec_dec_r s r, ?_, ?_, ?_, ?_, decFlags_H, decFlags_N,
    keepsFlags_setF_retire (fun _ => decFlags_get_other) (storageBits_decFlags _ _ _) _ _ _,
    (s.setReg_keepsRegs r _).setF_retire _ _ _, rfl, rfl, fun _ => rfl⟩
  all_goals rw [State.setReg_setF_retire_reg]
  · bv_omega
  · exact decFlags_PV
  · exact decFlags_S
  · exact decFlags_Z

/-- Settles O19: the pair is written without `F`, and `F` is written by `N` alone. -/
theorem incDecPair : Obligations.IncDecPair := by
  intro p s
  have hAF := rr_pair_ne_AF p
  have hIX := rr_pair_ne_IX p
  refine ⟨by cases p <;> exact ⟨rfl, rfl⟩, ?_, ?_⟩
  · refine ⟨_, exec_inc_rr s p, ?_, incPairFlags_N,
      keepsFlags_setF_retire (fun _ => incPairFlags_get_other) (storageBits_incPairFlags _) _ _ _,
      (s.setPair_keepsRegs _ _).setF_retire _ _ _, s.setPair_setF_retire_pc _ _ _ _,
      onlyMain_setPair_setF_retire s hIX _ _ _ _⟩
    rw [State.setPair_setF_retire_pair s hAF]
    exact BitVec.toNat_add _ _
  · refine ⟨_, exec_dec_rr s p, ?_, decPairFlags_N,
      keepsFlags_setF_retire (fun _ => decPairFlags_get_other) (storageBits_decPairFlags _) _ _ _,
      (s.setPair_keepsRegs _ _).setF_retire _ _ _, s.setPair_setF_retire_pc _ _ _ _,
      onlyMain_setPair_setF_retire s hIX _ _ _ _⟩
    rw [State.setPair_setF_retire_pair s hAF]
    bv_omega

/-- Settles O20: both operands are read before `HL` is written, so `HL` itself may be the source. -/
theorem addPairToHL : Obligations.AddPairToHL := by
  intro p s
  refine ⟨by cases p <;> rfl, _, exec_add_HL_rr s p, ?_, addPairFlags_C, addPairFlags_H, addPairFlags_N,
    keepsFlags_setF_retire (fun _ => addPairFlags_get_other) (storageBits_addPairFlags _ _ _) _ _ _,
    (s.setPair_keepsRegs _ .HL).setF_retire _ _ _, rfl, rfl, fun _ => rfl⟩
  rw [State.setPair_setF_retire_pair s (by decide)]
  exact BitVec.toNat_add _ _

end Sys2Proof.Machine
end

section
/-! The loads (`41_load.md` rules R130 to R140): what each of the three shared operations writes and leaves unchanged, said once,
and the five statements, each read off one of them. -/

namespace Sys2Proof.Machine

/-! ### The three operations -/

/-- A load of a register writes that register and moves `pc`, and nothing else but the reported cost. -/
theorem loadReg_completes (r : Reg) (v : Byte) (fmt : Format) (cost : Nat) (s : State) :
    ∃ t, loadReg r v fmt cost s = .next t ∧ t.reg r = v ∧
      t.main.f = s.main.f ∧ KeepsRegs [r] s t ∧ t.pc = s.pcNext fmt ∧ OnlyMain s t := by
  refine ⟨_, rfl, ?_, ?_, ?_, rfl, rfl, fun _ => rfl⟩
  · rw [State.retire_reg, State.setReg_reg, if_pos rfl]
  · exact s.main.set_f r v
  · exact s.setReg_keepsRegs r v

/-- A load of a pair of general registers writes the two and moves `pc`, and nothing else but the reported cost. -/
theorem loadPair_completes {p : Pair} (hAF : p ≠ .AF) (hIX : p ≠ .IX) (v : Word) (fmt : Format) (cost : Nat) (s : State) :
    ∃ t, loadPair p v fmt cost s = .next t ∧ t.pair p = v ∧
      t.main.f = s.main.f ∧ KeepsRegs (pairRegs p) s t ∧ t.pc = s.pcNext fmt ∧ OnlyMain s t := by
  refine ⟨_, rfl, ?_, ?_, ?_, ?_, ?_⟩
  · rw [State.retire_pair, State.setPair_pair]
  · exact s.setPair_flags v hAF
  · exact s.setPair_keepsRegs v p
  · rw [State.retire_pc, State.pcNext, State.setPair_pc, State.pcNext]
  · cases p with
    | IX => exact absurd rfl hIX
    | BC | DE | HL | AF => exact ⟨rfl, fun _ => rfl⟩

/-- A store writes the one byte and moves `pc`, and nothing else but the reported cost. -/
theorem storeByte_completes (a : Word) (v : Byte) (fmt : Format) (cost : Nat) (s : State) :
    ∃ t, storeByte a v fmt cost s = .next t ∧ t.readByte a = v ∧ t.pc = s.pcNext fmt ∧ OnlyByteAt a s t := by
  refine ⟨_, rfl, ?_, rfl, rfl, fun b hb => ?_⟩
  · rw [State.retire_readByte, State.writeByte_readByte, if_pos rfl]
  · rw [State.retire_readByte, State.writeByte_readByte, if_neg hb]

/-! ### The immediate under each byte order (`30_encoding.md` rule R88) -/

theorem State.imm_toNat_of_highFirst {s : State} (h : s.cfg.imm16Order = .highFirst) (o1 o2 : Byte) :
    (s.imm o1 o2).toNat = o1.toNat * 256 + o2.toNat := by
  rw [imm, h]
  exact join_toNat o1 o2

theorem State.imm_toNat_of_lowFirst {s : State} (h : s.cfg.imm16Order = .lowFirst) (o1 o2 : Byte) :
    (s.imm o1 o2).toNat = o2.toNat * 256 + o1.toNat := by
  rw [imm, h]
  exact join_toNat o2 o1

/-! ### The statements -/

/-- Settles O21: both forms are the load of a register, and the source is read before the write. -/
theorem loadRegister : Obligations.LoadRegister := by
  intro r r' n s
  refine ⟨⟨?_, ?_⟩, ?_, ?_⟩
  · cases r <;> rfl
  · cases r <;> cases r' <;> rfl
  · rw [exec_ld_r_n]
    exact loadReg_completes r n .B1 _ s
  · rw [exec_ld_r_r]
    exact loadReg_completes r (s.reg r') .B0 _ s

/-- Settles O22: the load of a pair, whose value the byte order says. -/
theorem loadPairImmediate : Obligations.LoadPairImmediate := by
  intro p o1 o2 s
  refine ⟨by cases p <;> rfl, ?_⟩
  rw [exec_ld_rr_nn]
  obtain ⟨t, hload, hpair, hframe⟩ :=
    loadPair_completes (rr_pair_ne_AF p) (rr_pair_ne_IX p) (s.imm o1 o2) .B2 s.cfg.cycles.ldRRnn s
  refine ⟨t, hload, hpair, ?_, ?_, hframe⟩
  · rw [hpair]
    exact fun h => State.imm_toNat_of_highFirst h o1 o2
  · rw [hpair]
    exact fun h => State.imm_toNat_of_lowFirst h o1 o2

/-- Settles O23: the byte is read at the old pair before the register, which may be half of it, is written. -/
theorem loadFromPairAddress : Obligations.LoadFromPairAddress := by
  intro s
  refine ⟨⟨fun r => ?_, fun p => ?_⟩, fun r => ?_, fun p => ?_⟩
  · cases r <;> rfl
  · cases p <;> rfl
  · rw [exec_ld_r_iHL]
    exact loadReg_completes r (s.readByte (s.pair .HL)) .B0 _ s
  · rw [exec_ld_A_irr]
    exact loadReg_completes .A (s.readByte (s.pair p.pair)) .B0 _ s

/-- Settles O24: each form is the store of one byte. -/
theorem storeRegister : Obligations.StoreRegister := by
  intro s
  refine ⟨⟨fun r => ?_, fun p => ?_, fun o1 o2 => rfl⟩, fun r => ?_, fun p => ?_, fun o1 o2 => ?_⟩
  · cases r <;> rfl
  · cases p <;> rfl
  · rw [exec_ld_iHL_r]
    exact storeByte_completes (s.pair .HL) (s.reg r) .B0 _ s
  · rw [exec_ld_irr_A]
    exact storeByte_completes (s.pair p.pair) (s.reg .A) .B0 _ s
  · exact storeByte_completes (s.imm o1 o2) (s.reg .A) .B2 s.cfg.cycles.ldinnA s

/-- Settles O25: the store of `L` alone, and the load of `L` alone. -/
theorem pairMemoryMovesLowByteOnly : Obligations.PairMemoryMovesLowByteOnly := by
  intro o1 o2 s
  refine ⟨⟨rfl, rfl⟩, ?_, ?_⟩
  · exact storeByte_completes (s.imm o1 o2) (s.reg .L) .B2 s.cfg.cycles.ldinnHL s
  · exact loadReg_completes .L (s.readByte (s.imm o1 o2)) .B2 s.cfg.cycles.ldHLinn s

end Sys2Proof.Machine
end

section
/-! The stack (`42_stack.md` rules R150 to R152): the bytes a push leaves and its frame, all a pop does, and the word that stands at
an address across both. -/

namespace Sys2Proof.Machine

/-! ### `Push16` and `Pop16` -/

namespace State

variable (s : State) (v : Word)

theorem push16_readByte_high : (s.push16 v).readByte (s.sp - 1) = hiByte v := by
  rw [push16_readByte, if_neg (sp_sub_one_ne s.sp), if_pos rfl]

theorem push16_readByte_low : (s.push16 v).readByte (s.sp - 2) = loByte v := by
  rw [push16_readByte, if_pos rfl]

theorem push16_onlyPushed : OnlyPushed s (s.push16 v) :=
  ⟨rfl, fun b h1 h2 => by rw [push16_readByte, if_neg h2, if_neg h1]⟩

/-- The word a pop takes from an address: the high byte stands above the low byte. -/
def wordAt (a : Word) : Word := join (s.readByte (a + 1)) (s.readByte a)

theorem pop16_wordAt : s.pop16 = (s.wordAt s.sp, { s with sp := s.sp + 2 }) := s.pop16_eq

theorem wordAt_toNat (a : Word) : (s.wordAt a).toNat = (s.readByte (a + 1)).toNat * 256 + (s.readByte a).toNat :=
  join_toNat _ _

theorem push16_wordAt_new : (s.push16 v).wordAt (s.sp - 2) = v := by
  have hpop := s.push16_pop16 v
  rwa [pop16_wordAt, push16_sp] at hpop

/-- A push stores below the word that was on top. -/
theorem push16_wordAt_old : (s.push16 v).wordAt s.sp = s.wordAt s.sp := by
  obtain ⟨-, hkeeps⟩ := s.push16_onlyPushed v
  rw [wordAt, hkeeps s.sp (by bv_omega) (by bv_omega), hkeeps (s.sp + 1) (by bv_omega) (by bv_omega), wordAt]

@[simp] theorem setPair_wordAt (p : Pair) (a : Word) : (s.setPair p v).wordAt a = s.wordAt a := by
  simp [wordAt]

/-! ### The flags byte and the frame of a write to a pair -/

/-- `AF` is the pair that holds the whole flags byte. -/
theorem setPair_f (p : Pair) : (s.setPair p v).main.f = if p = .AF then loByte v else s.main.f := by
  split
  next h => rw [h]; rfl
  next h => exact s.setPair_flags v h

/-- Every pair but `IX` lies in the main bank. -/
theorem setPair_eq_of_ne_IX {p : Pair} (hp : p ≠ .IX) : s.setPair p v = { s with main := (s.setPair p v).main } := by
  cases p with
  | IX => exact absurd rfl hp
  | BC | DE | HL | AF => rfl

end State

/-! ### `PUSH` and `POP` of a pair -/

/-- A push of a pair leaves its two bytes below `sp` and moves `sp` and `pc`. -/
theorem pushPair_completes (p : Pair) (fmt : Format) (cost : Nat) (s : State) :
    ∃ t, pushPair p fmt cost s = .next t ∧ t.readByte (s.sp - 1) = hiByte (s.pair p) ∧
      t.readByte (s.sp - 2) = loByte (s.pair p) ∧ t.sp = s.sp - 2 ∧ t.pc = s.pcNext fmt ∧ OnlyPushed s t :=
  ⟨_, rfl, s.push16_readByte_high _, s.push16_readByte_low _, s.push16_sp _, rfl, rfl, (s.push16_onlyPushed _).2⟩

/-- All a pop of a pair does: `sp` and `pc` move on, and the pair is written with the word that stood at `sp`. -/
theorem popPair_eq (p : Pair) (fmt : Format) (cost : Nat) (s : State) :
    popPair p fmt cost s =
      .next ({ s with sp := s.sp + 2, pc := s.pcNext fmt, cycles := cost }.setPair p (s.wordAt s.sp)) := by
  rw [popPair, State.pop16_wordAt]
  cases p <;> rfl

theorem qq_pair_ne_IX (q : Qq) : q.pair ≠ .IX := by cases q <;> nofun

theorem qq_pair_injective : Function.Injective Qq.pair := by
  intro q q'
  cases q <;> cases q' <;> decide

/-! ### What a push and a pop do to the stacked words -/

/-- A push puts its pair on top of the word that was on top, and keeps every pair. -/
theorem push_qq_stack (q : Qq) (s : State) :
    ∃ t, exec (.push_qq q) s = .next t ∧ t.sp = s.sp - 2 ∧ t.wordAt t.sp = s.pair q.pair ∧
      t.wordAt s.sp = s.wordAt s.sp ∧ ∀ p, t.pair p = s.pair p := by
  refine ⟨_, exec_push_qq s q, s.push16_sp _, ?_, s.push16_wordAt_old _, fun p => ?_⟩
  · rw [State.retire_sp, State.push16_sp]
    exact s.push16_wordAt_new _
  · rw [State.retire_pair, State.push16_pair]

/-- A pop takes the word on top into its pair, and keeps the other pairs and every word of memory. -/
theorem pop_qq_stack (q : Qq) (s : State) :
    ∃ t, exec (.pop_qq q) s = .next t ∧ t.sp = s.sp + 2 ∧ t.pair q.pair = s.wordAt s.sp ∧
      (∀ a, t.wordAt a = s.wordAt a) ∧ ∀ p, p ≠ q.pair → t.pair p = s.pair p := by
  rw [exec_pop_qq, popPair_eq]
  refine ⟨_, rfl, State.setPair_sp _ _ _, State.setPair_pair _ _ _, State.setPair_wordAt _ _ _, fun p hp => ?_⟩
  rw [State.setPair_pair_other _ _ hp]
  cases p <;> rfl

/-! ### The statements (in a namespace of their own: `pushPair` and `popPair` are operations of the model) -/

namespace Stack

/-- Settles O26: the two bytes of the pair, `F` being the low byte of `AF`. -/
theorem pushPair : Obligations.PushPair := by
  intro q s
  refine ⟨by cases q <;> rfl, ?_⟩
  rw [exec_push_qq]
  obtain ⟨t, hpush, hhigh, hlow, hframe⟩ := pushPair_completes q.pair .B0 s.cfg.cycles.push s
  refine ⟨t, hpush, ?_, ?_, hframe⟩
  · rw [hhigh, hiByte_toNat]
  · rw [hlow, loByte_toNat]

/-- Settles O27: the pop writes the pair with the word at `sp`, whose low byte is the whole of `F` for `AF`. -/
theorem popPair : Obligations.PopPair := by
  intro q s
  refine ⟨by cases q <;> rfl, ?_⟩
  rw [exec_pop_qq, popPair_eq]
  refine ⟨_, rfl, ?_, ?_, State.setPair_keepsRegs _ _ _, State.setPair_sp _ _ _, State.setPair_pc _ _ _, ?_, ?_⟩
  · rw [State.setPair_pair, State.wordAt_toNat]
  · have hAF : q.pair = .AF ↔ q = .AF := qq_pair_injective.eq_iff (b := .AF)
    simp only [State.setPair_f, State.wordAt, loByte_join, hAF]
  · rw [State.setPair_eq_of_ne_IX _ _ (qq_pair_ne_IX q)]
  · exact State.setPair_readByte _ _ _

/-- Settles O28: the second push and the first pop leave the word of the first push in place. -/
theorem popReturnsWhatWasPushed : Obligations.PopReturnsWhatWasPushed := by
  intro q1 q2 q3 q4 s hne
  obtain ⟨t1, hpush1, hsp1, htop1, -, hpairs1⟩ := push_qq_stack q1 s
  obtain ⟨t2, hpush2, hsp2, htop2, hbelow2, -⟩ := push_qq_stack q2 t1
  obtain ⟨t3, hpop3, hsp3, hpair3, hwords3, -⟩ := pop_qq_stack q3 t2
  obtain ⟨t4, hpop4, hsp4, hpair4, -, hothers4⟩ := pop_qq_stack q4 t3
  have hback : t3.sp = t1.sp := by rw [hsp3, hsp2, BitVec.sub_add_cancel]
  refine ⟨t1, t2, t3, t4, hpush1, hpush2, hpop3, hpop4, ?_, ?_, ?_⟩
  · calc t4.pair q3.pair
      _ = t3.pair q3.pair := hothers4 _ (qq_pair_injective.ne hne.symm)
      _ = t2.wordAt t2.sp := hpair3
      _ = t1.pair q2.pair := htop2
      _ = s.pair q2.pair := hpairs1 _
  · calc t4.pair q4.pair
      _ = t3.wordAt t3.sp := hpair4
      _ = t2.wordAt t1.sp := by rw [hwords3, hback]
      _ = t1.wordAt t1.sp := hbelow2
      _ = s.pair q1.pair := htop1
  · rw [hsp4, hback, hsp1, BitVec.sub_add_cancel]

end Stack

end Sys2Proof.Machine
end

section
/-! Rotate and shift (`43_rotate_shift.md` rules R160, R161): both write one register and the flag `C`; what the two new bytes are as
numbers, and the statement. -/

namespace Sys2Proof.Machine

/-! ### The flag computation, and the two new bytes as numbers -/

theorem shiftFlags_C (out : Bool) (f : Byte) : Flag.get .C (shiftFlags out f) = out := by
  simp [shiftFlags]

/-- A rotate or shift writes no flag but `C` (rules R160, R161). -/
theorem shiftFlags_get_other {fl : Flag} {out : Bool} {f : Byte} (h : fl ∉ [Flag.C]) :
    fl.get (shiftFlags out f) = fl.get f := by
  have hC : fl ≠ .C := by simpa using h
  simp [shiftFlags, hC]

/-- The bit a rotation left drops comes back as the lowest bit, which doubling has left 0: the two do not meet. -/
theorem rotateLeft_one_toNat (v : Byte) : (v.rotateLeft 1).toNat = v.toNat * 2 % 256 + v.toNat / 128 := by
  have hbit : v.toNat / 128 < 2 ^ 1 := by omega
  have heven : v.toNat * 2 % 256 = 2 ^ 1 * (v.toNat % 128) := by omega
  calc (v.rotateLeft 1).toNat
    _ = v.toNat * 2 % 256 ||| v.toNat / 128 := by
      simp [BitVec.toNat_rotateLeft, Nat.shiftLeft_eq, Nat.shiftRight_eq_div_pow]
    _ = v.toNat * 2 % 256 + v.toNat / 128 := by
      rw [heven, Nat.two_pow_add_eq_or_of_lt hbit]

theorem ushiftRight_one_toNat (v : Byte) : (v >>> 1).toNat = v.toNat / 2 := by
  simp [Nat.shiftRight_eq_div_pow]

/-! ### A write of a register, then of `C`, then Retire -/

/-- Outside the register, `C`, `pc` and the reported cost nothing changes. -/
theorem setReg_shiftFlags_retire_frame (s : State) (r : Reg) (v : Byte) (out : Bool) (fmt : Format) (cost : Nat) :
    let t := ((s.setReg r v).setF (shiftFlags out s.main.f)).retire fmt cost
    KeepsFlags [.C] s t ∧ KeepsRegs [r] s t ∧ t.pc = s.pcNext fmt ∧ OnlyMain s t :=
  ⟨keepsFlags_setF_retire (fun _ => shiftFlags_get_other) (storageBits_shiftFlags _ _) _ _ _,
    (s.setReg_keepsRegs r v).setF_retire _ _ _, rfl, rfl, fun _ => rfl⟩

/-! ### The statement -/

/-- Settles O29: the new byte as a number, and the bit that left it. -/
theorem rotateAndShift : Obligations.RotateAndShift := by
  intro s
  refine ⟨⟨rfl, fun r => by cases r <;> rfl⟩, ?_, fun r => ?_⟩
  · refine ⟨_, rfl, ?_, ?_, setReg_shiftFlags_retire_frame s .A _ _ .B0 _⟩
    · rw [State.setReg_setF_retire_reg, rotateLeft_one_toNat]
    · rw [← msb_eq_bit7]
      exact shiftFlags_C _ _
  · refine ⟨_, exec_srl_r s r, ?_, shiftFlags_C _ _, setReg_shiftFlags_retire_frame s r _ _ .P0 _⟩
    rw [State.setReg_setF_retire_reg, ushiftRight_one_toNat]

end Sys2Proof.Machine
end

section
/-! The accumulator operations (`44_accumulator.md` rules R170 to R177): what the three flag computations write and keep, what a
write of `A` with its flags leaves unchanged, the differences as numbers, and the four statements. -/

namespace Sys2Proof.Machine

/-! ### The flag computations, flag by flag -/

section
variable {res v f : Byte}

theorem setZSP_Z : Flag.get .Z (setZSP res v f) = decide (res = 0) := by
  rw [← beq_zero]
  simp [setZSP]

theorem setZSP_S : Flag.get .S (setZSP res v f) = res.getLsbD 7 := by
  rw [← msb_eq_bit7]
  simp [setZSP]

/-- The operand's bit 7, and not the result's (rule R170). -/
theorem setZSP_PV : Flag.get .PV (setZSP res v f) = v.getLsbD 7 := by
  rw [← msb_eq_bit7]
  simp [setZSP]

/-- `SetZSP` writes none of `C`, `H` and `N` (rule R170). -/
theorem setZSP_get_other {fl : Flag} (h : fl ∉ [Flag.Z, .S, .PV]) : fl.get (setZSP res v f) = fl.get f := by
  obtain ⟨hZ, hS, hPV⟩ : fl ≠ .Z ∧ fl ≠ .S ∧ fl ≠ .PV := by simpa using h
  simp [setZSP, hZ, hS, hPV]

/-- `AND` adds `H`, `N` and `C` to `SetZSP` (rule R171). -/
theorem andFlags_get_eq_setZSP {fl : Flag} (h : fl ∉ [Flag.H, .N, .C]) :
    fl.get (andFlags res v f) = fl.get (setZSP res v f) := by
  obtain ⟨hH, hN, hC⟩ : fl ≠ .H ∧ fl ≠ .N ∧ fl ≠ .C := by simpa using h
  simp [andFlags, hH, hN, hC]

theorem andFlags_H : Flag.get .H (andFlags res v f) = true := by simp [andFlags]
theorem andFlags_N : Flag.get .N (andFlags res v f) = false := by simp [andFlags]
theorem andFlags_C : Flag.get .C (andFlags res v f) = false := by simp [andFlags]

/-- `OR` and `XOR` add `H`, `N` and `C` to `SetZSP` (rules R172, R173). -/
theorem orFlags_get_eq_setZSP {fl : Flag} (h : fl ∉ [Flag.H, .N, .C]) :
    fl.get (orFlags res v f) = fl.get (setZSP res v f) := by
  obtain ⟨hH, hN, hC⟩ : fl ≠ .H ∧ fl ≠ .N ∧ fl ≠ .C := by simpa using h
  simp [orFlags, hH, hN, hC]

theorem orFlags_H : Flag.get .H (orFlags res v f) = false := by simp [orFlags]
theorem orFlags_N : Flag.get .N (orFlags res v f) = false := by simp [orFlags]
theorem orFlags_C : Flag.get .C (orFlags res v f) = false := by simp [orFlags]

end

/-- The logical operations write every named flag, so that of `F` only bits 5 and 3 are kept. -/
theorem Flag.mem_all (fl : Flag) : fl ∈ [Flag.S, .Z, .H, .PV, .N, .C] := by
  cases fl <;> decide

/-! ### A write of `A`, then of its flags, then Retire -/

section
variable (s : State) (res v : Byte) (cost : Nat)

/-- Where the new flags agree with `SetZSP` in `Z`, `S` and `PV`, they say of the new `A` and the operand what rule R170 asks. -/
theorem writeA_ZSP {f : Byte} (hZSP : ∀ fl, fl ∉ [Flag.H, .N, .C] → fl.get f = fl.get (setZSP res v s.main.f)) :
    let t := ((s.setReg .A res).setF f).retire .B0 cost
    t.flag .Z = decide (t.reg .A = 0) ∧ t.flag .S = (t.reg .A).getLsbD 7 ∧ t.flag .PV = v.getLsbD 7 := by
  simp only [State.setReg_setF_retire_reg]
  exact ⟨(hZSP .Z (by decide)).trans setZSP_Z, (hZSP .S (by decide)).trans setZSP_S,
    (hZSP .PV (by decide)).trans setZSP_PV⟩

/-- Outside `A`, the flags written, `pc` and the reported cost nothing changes. -/
theorem writeA_frame {but : List Flag} {f : Byte} (hflags : ∀ fl, fl ∉ but → fl.get f = fl.get s.main.f)
    (hstorage : storageBits f = storageBits s.main.f) :
    let t := ((s.setReg .A res).setF f).retire .B0 cost
    KeepsFlags but s t ∧ KeepsRegs [.A] s t ∧ t.pc = s.pc + 1 ∧ OnlyMain s t :=
  ⟨keepsFlags_setF_retire hflags hstorage _ _ _, (s.setReg_keepsRegs .A res).setF_retire _ _ _, rfl, rfl, fun _ => rfl⟩

/-- What `OR` and `XOR` do once the result is known (rules R172, R173). -/
theorem writeA_orFlags :
    let t := ((s.setReg .A res).setF (orFlags res v s.main.f)).retire .B0 cost
    t.reg .A = res ∧ t.flag .Z = decide (t.reg .A = 0) ∧ t.flag .S = (t.reg .A).getLsbD 7 ∧
      t.flag .PV = v.getLsbD 7 ∧ t.flag .H = false ∧ t.flag .N = false ∧ t.flag .C = false ∧
      KeepsFlags [.S, .Z, .H, .PV, .N, .C] s t ∧ KeepsRegs [.A] s t ∧ t.pc = s.pc + 1 ∧ OnlyMain s t := by
  obtain ⟨hZ, hS, hPV⟩ := writeA_ZSP s res v cost fun _ => orFlags_get_eq_setZSP
  exact ⟨s.setReg_setF_retire_reg .A res _ _ _, hZ, hS, hPV, orFlags_H, orFlags_N, orFlags_C,
    writeA_frame s res cost (fun fl h => absurd fl.mem_all h) (storageBits_orFlags _ _ _)⟩

/-- What `SUB` and `SBC` do beside writing the result (rules R176, R177). -/
theorem writeA_setZSP :
    let t := ((s.setReg .A res).setF (setZSP res v s.main.f)).retire .B0 cost
    t.flag .Z = decide (t.reg .A = 0) ∧ t.flag .S = (t.reg .A).getLsbD 7 ∧ t.flag .PV = v.getLsbD 7 ∧
      KeepsFlags [.Z, .S, .PV] s t ∧ KeepsRegs [.A] s t ∧ t.pc = s.pc + 1 ∧ OnlyMain s t := by
  obtain ⟨hZ, hS, hPV⟩ := writeA_ZSP s res v cost fun _ _ => rfl
  exact ⟨hZ, hS, hPV, writeA_frame s res cost (fun _ => setZSP_get_other) (storageBits_setZSP _ _ _)⟩

end

/-! ### The differences as numbers -/

/-- `A - r - C` mod 256: 512 makes room for a borrow of both subtractions. -/
theorem sub_sub_carry_toNat (a v : Byte) (carry : Bool) :
    (a - v - BitVec.ofNat 8 carry.toNat).toNat = (a.toNat + 512 - v.toNat - carry.toNat) % 256 := by
  have hcarry : carry.toNat ≤ 1 := carry.toNat_le
  generalize carry.toNat = c at hcarry
  bv_omega

theorem sub_bit7 (a v : Byte) : (a - v).getLsbD 7 = decide ((a.toNat + 256 - v.toNat) % 256 ≥ 128) := by
  have hdiff : (a - v).toNat = (a.toNat + 256 - v.toNat) % 256 := by bv_omega
  rw [← msb_eq_bit7, BitVec.msb_eq_decide, hdiff]

theorem sub_eq_zero_iff_toNat_eq (a v : Byte) : a - v = 0 ↔ a.toNat = v.toNat := by
  rw [sub_eq_zero, BitVec.toNat_inj]

/-! ### The comparison -/

/-- A comparison writes `Z`, `S` and `PV` of the difference and moves `pc`, and nothing else but the reported cost (rule R174). -/
theorem compareA_completes (v : Byte) (fmt : Format) (cost : Nat) (s : State) :
    ∃ t, compareA v fmt cost s = .next t ∧ t.flag .Z = decide ((s.reg .A).toNat = v.toNat) ∧
      t.flag .S = decide (((s.reg .A).toNat + 256 - v.toNat) % 256 ≥ 128) ∧ t.flag .PV = v.getLsbD 7 ∧
      KeepsFlags [.Z, .S, .PV] s t ∧ KeepsRegs [] s t ∧ t.pc = s.pcNext fmt ∧ OnlyMain s t := by
  refine ⟨_, rfl, ?_, setZSP_S.trans (sub_bit7 _ _), setZSP_PV,
    keepsFlags_setF_retire (fun _ => setZSP_get_other) (storageBits_setZSP _ _ _) _ _ _,
    fun r _ => s.setF_reg _ r, rfl, rfl, fun _ => rfl⟩
  simp only [← sub_eq_zero_iff_toNat_eq]
  exact setZSP_Z

/-! ### The statements -/

/-- Settles O30: the operand is read before `A` is written, so `A` itself may be the operand. -/
theorem logicalAnd : Obligations.LogicalAnd := by
  intro x s
  refine ⟨?_, _, exec_and_s s x, ?_⟩
  · cases x with
    | reg r => cases r <;> rfl
    | iHL => rfl
  · obtain ⟨hZ, hS, hPV⟩ := writeA_ZSP s (s.reg .A &&& srcValue s x) (srcValue s x) (srcCost x s)
      fun _ => andFlags_get_eq_setZSP
    exact ⟨s.setReg_setF_retire_reg .A _ _ _ _, hZ, hS, hPV, andFlags_H, andFlags_N, andFlags_C,
      writeA_frame s _ _ (fun fl h => absurd fl.mem_all h) (storageBits_andFlags _ _ _)⟩

/-- Settles O31: both write `A` with the same flag computation. -/
theorem logicalOrXor : Obligations.LogicalOrXor := by
  intro x s
  refine ⟨?_, ⟨_, exec_or_s s x, writeA_orFlags s _ _ _⟩, ⟨_, exec_xor_s s x, writeA_orFlags s _ _ _⟩⟩
  cases x with
  | reg r => cases r <;> exact ⟨rfl, rfl⟩
  | iHL => exact ⟨rfl, rfl⟩

/-- Settles O32: both forms are the one comparison, of a register and of the byte after the opcode. -/
theorem compareLeavesAccumulator : Obligations.CompareLeavesAccumulator := by
  intro s
  refine ⟨⟨fun r => by cases r <;> rfl, fun n => rfl⟩, fun r => ?_, fun n => ?_⟩
  · rw [exec_cp_r]
    exact compareA_completes (s.reg r) .B0 _ s
  · exact compareA_completes n .B1 s.cfg.cycles.cpN s

/-- Settles O33: the two differences as numbers, and flags that leave the carry alone. -/
theorem subtractRegister : Obligations.SubtractRegister := by
  intro r s
  refine ⟨by cases r <;> exact ⟨rfl, rfl⟩, ⟨_, exec_sub_r s r, ?_, writeA_setZSP s _ _ _⟩,
    ⟨_, exec_sbc_A_r s r, ?_, writeA_setZSP s _ _ _⟩⟩
  · rw [State.setReg_setF_retire_reg]
    bv_omega
  · rw [State.setReg_setF_retire_reg]
    exact sub_sub_carry_toNat _ _ _

end Sys2Proof.Machine
end

section
/-! Control transfer (`45_control.md` rules R191 to R199): each shared operation as one end state, the relative target as a number,
and the five statements, each read off them. -/

namespace Sys2Proof.Machine

/-! ### What each transfer makes of the state -/

/-- Taken or not, a conditional jump ends with a target in `pc` (rules R192, R198). -/
theorem jumpIf_eq_jump (took : Bool) (target : Word) (fmt : Format) (cost : BranchCost) (s : State) :
    jumpIf took target fmt cost s = .next (s.jump (if took then target else s.pcNext fmt) (cost.of took)) := by
  cases took <;> rfl

/-- A call leaves the address after the three-byte `CALL` in the two cells below `sp` (rule R193). -/
theorem State.call_pushes_return (s : State) (target : Word) (cost : Nat) :
    (s.call target cost).pc = target ∧ (s.call target cost).sp = s.sp - 2 ∧
    ((s.call target cost).readByte (s.sp - 1)).toNat = (s.pc + 3).toNat / 256 ∧
    ((s.call target cost).readByte (s.sp - 2)).toNat = (s.pc + 3).toNat % 256 ∧ OnlyPushed s (s.call target cost) := by
  refine ⟨rfl, s.push16_sp _, ?_, ?_, rfl, (s.push16_onlyPushed _).2⟩
  · rw [call, jump_readByte, push16_readByte_high]
    exact hiByte_toNat _
  · rw [call, jump_readByte, push16_readByte_low]
    exact loByte_toNat _

/-- A return goes to the word at `sp`, whatever put it there, and moves `sp` (rule R195). -/
theorem State.ret_pops_pc (s : State) (cost : Nat) :
    (s.ret cost).pc.toNat = (s.readByte (s.sp + 1)).toNat * 256 + (s.readByte s.sp).toNat ∧
    (s.ret cost).sp = s.sp + 2 ∧
    s.ret cost = { s with sp := (s.ret cost).sp, pc := (s.ret cost).pc, cycles := (s.ret cost).cycles } ∧
    ∀ a, (s.ret cost).readByte a = s.readByte a := by
  rw [ret_eq]
  exact ⟨join_toNat _ _, rfl, rfl, fun _ => rfl⟩

/-! ### Relative targets, and the test of `DJNZ` -/

/-- The target of a two-byte relative jump, wrapping at both ends (rule R197). -/
theorem State.relTarget_toNat (s : State) (o1 : Byte) :
    ((s.relTarget o1).toNat : Int) = ((s.pc.toNat : Int) + 2 + o1.toInt) % 65536 := by
  have hdisp := displacement_toNat o1
  have htarget : (s.relTarget o1).toNat = (s.pc.toNat + 2 + (displacement o1).toNat) % 65536 := by
    change (s.pc + 2 + displacement o1).toNat = _
    bv_omega
  omega

/-- Only `B = 1` is zero after the decrement (rule R199). -/
theorem sub_one_bne_zero (b : Byte) : (b - 1 != 0) = decide (b.toNat ≠ 1) := by
  rw [bne, beq_zero, ← decide_not]
  exact decide_eq_decide.2 (not_congr (sub_eq_zero_iff_toNat_eq b 1))

/-! ### The statements -/

/-- Settles O34: `JP` is a jump, and `JP cc` one to the immediate or to the next instruction. -/
theorem absoluteJumps : Obligations.AbsoluteJumps := by
  intro o1 o2 s
  refine ⟨⟨rfl, fun cc => by cases cc <;> rfl⟩, ⟨_, rfl, rfl, rfl⟩, fun cc => ?_⟩
  rw [exec_jp_cc, jumpIf_eq_jump]
  exact ⟨_, rfl, rfl, rfl⟩

/-- Settles O35: a call where it is taken, and Retire where it is not. -/
theorem calls : Obligations.Calls := by
  intro o1 o2 s
  refine ⟨⟨rfl, fun cc => by cases cc <;> rfl⟩, ⟨_, rfl, s.call_pushes_return _ _⟩, fun cc => ?_⟩
  rw [exec_call_cc]
  cases s.cond cc with
  | true => exact ⟨_, rfl, fun _ => s.call_pushes_return _ _, nofun⟩
  | false => exact ⟨_, rfl, nofun, fun _ => ⟨rfl, rfl⟩⟩

/-- Settles O36: a return where it is taken, and Retire where it is not. -/
theorem returns : Obligations.Returns := by
  intro s
  refine ⟨⟨rfl, fun cc => by cases cc <;> rfl⟩, ⟨_, rfl, s.ret_pops_pc _⟩, fun cc => ?_⟩
  rw [exec_ret_cc]
  cases s.cond cc with
  | true => exact ⟨_, rfl, fun _ => s.ret_pops_pc _, nofun⟩
  | false => exact ⟨_, rfl, nofun, fun _ => ⟨rfl, rfl⟩⟩

/-- Settles O38: a jump to the relative target where it is taken, and to the next instruction where it is not. -/
theorem relativeJumps : Obligations.RelativeJumps := by
  intro o1 s
  refine ⟨⟨rfl, fun cc => by cases cc <;> rfl⟩, ⟨_, rfl, s.relTarget_toNat o1, rfl⟩, fun cc => ?_⟩
  rw [exec_jr_cc, jumpIf_eq_jump]
  refine ⟨_, rfl, fun htaken => ?_, fun hnot => ?_, rfl⟩
  · rw [State.jump_pc, if_pos htaken]
    exact s.relTarget_toNat o1
  · rw [State.jump_pc, hnot]
    rfl

/-- Settles O39: `B` is written first, and the jump tests the byte written. -/
theorem decrementBAndJump : Obligations.DecrementBAndJump := by
  intro o1 s
  refine ⟨rfl, _, jumpIf_eq_jump _ _ _ _ _, ?_, fun hone => ?_, fun hne => ?_, s.main.set_f .B _,
    s.setReg_keepsRegs .B _, rfl, fun _ => rfl⟩
  · rw [State.jump_reg, State.setReg_reg, if_pos rfl]
    bv_omega
  · rw [State.jump_pc, sub_one_bne_zero, if_neg (by simpa using hone)]
    rfl
  · rw [State.jump_pc, sub_one_bne_zero, if_pos (by simpa using hne)]
    exact s.relTarget_toNat o1

end Sys2Proof.Machine
end

section
/-! Exchange (`46_exchange.md` rules R210 to R212): each exchange is one update of the banks, whose new banks are read off it; `EX DE,HL`
swaps two pairs of the main bank and keeps the other registers. -/

namespace Sys2Proof.Machine

/-! ### What `EX DE,HL` does to the pairs and the registers -/

@[simp] theorem State.exchangeDEHL_pair_DE (s : State) : s.exchangeDEHL.pair .DE = s.pair .HL := rfl

@[simp] theorem State.exchangeDEHL_pair_HL (s : State) : s.exchangeDEHL.pair .HL = s.pair .DE := rfl

/-- The registers outside the two pairs keep their bytes (rule R212). -/
theorem State.exchangeDEHL_keepsRegs (s : State) : KeepsRegs [.D, .E, .H, .L] s s.exchangeDEHL := by
  intro r hr
  cases r with
  | A | B | C => rfl
  | D | E | H | L => exact absurd hr (by decide)

/-! ### The statement -/

/-- Settles O40: Retire leaves the banks as the exchange made them, and no exchange writes outside the banks. -/
theorem exchanges : Obligations.Exchanges := by
  intro s
  refine ⟨⟨rfl, rfl, rfl⟩, ⟨s.exchangeAF.retire .B0 s.cfg.cycles.exchange, rfl, ?_⟩,
    ⟨s.exchangeBanks.retire .B0 s.cfg.cycles.exchange, rfl, ?_⟩,
    ⟨s.exchangeDEHL.retire .B0 s.cfg.cycles.exchange, rfl, ?_⟩⟩
  · exact ⟨rfl, rfl, rfl, rfl, fun _ => rfl⟩
  · exact ⟨rfl, rfl, rfl, rfl, fun _ => rfl⟩
  · exact ⟨s.exchangeDEHL_pair_DE, s.exchangeDEHL_pair_HL, rfl, s.exchangeDEHL_keepsRegs, rfl, rfl, fun _ => rfl⟩

end Sys2Proof.Machine
end

section
/-! Block transfer, port output and interrupt control (`47_block_io_system.md` rules R220 to R227): `LDIR` as its passes, the bytes a
copy between disjoint ranges leaves, and the four statements. -/

namespace Sys2Proof.Machine

/-! ### The block count and the copied bytes (`47_block_io_system.md` rule R220) -/

/-- Counting down from `BC`, the number of passes brings it to zero: 65536 passes are 0 mod 65536. -/
theorem ofNat_blockCount (bc : Word) : BitVec.ofNat 16 (blockCount bc) = bc := by
  unfold blockCount
  split
  next h => rw [h]; rfl
  next => rw [BitVec.ofNat_toNat, BitVec.setWidth_eq]

section
variable {read : Word → Byte} {src dst : Word} {n : Nat}

/-- An address that is none of the destination's keeps its byte. -/
theorem copyBytes_of_not_dest (hn : n ≤ 65536) {a : Word} (ha : ∀ k, k < n → a ≠ dst + BitVec.ofNat 16 k) :
    copyBytes read src dst n a = read a :=
  copyBytes_outside read src dst n hn a fun hlt =>
    ha _ hlt (by rw [BitVec.ofNat_toNat, BitVec.setWidth_eq, add_sub_cancel])

/-- Where the two ranges share no byte, byte `k` of the destination ends as byte `k` of the source was: no earlier pass
has stored to the source. -/
theorem copyBytes_dest (hn : n ≤ 65536)
    (hdisjoint : ∀ j k, j < n → k < n → dst + BitVec.ofNat 16 j ≠ src + BitVec.ofNat 16 k) {k : Nat} (hk : k < n) :
    copyBytes read src dst n (dst + BitVec.ofNat 16 k) = read (src + BitVec.ofNat 16 k) := by
  induction n with
  | zero => exact absurd hk (Nat.not_lt_zero k)
  | succ n ih =>
    simp only [copyBytes]
    by_cases hlast : k = n
    · subst hlast
      rw [if_pos rfl]
      exact copyBytes_of_not_dest (by omega) fun j hj => (hdisjoint j k (by omega) hk).symm
    · have hne : dst + BitVec.ofNat 16 k ≠ dst + BitVec.ofNat 16 n := by bv_omega
      rw [if_neg hne]
      exact ih (by omega) (fun i j hi hj => hdisjoint i j (by omega) (by omega)) (by omega)

end

/-! ### The statements -/

/-- Settles O41: `LDIR` is `blockCount BC` passes, and what any number of passes does is known of each part of the state. -/
theorem blockCopy : Obligations.BlockCopy := by
  intro s
  obtain ⟨hBC, hDE, hHL⟩ := State.copyOne_iterate_pairs (blockCount (s.pair .BC)) s
  obtain ⟨hA, hF⟩ := State.copyOne_iterate_AF (blockCount (s.pair .BC)) s
  refine ⟨rfl, _, copyBlock_eq s, fun a => ?_, ?_, ?_, ?_, rfl, hA, hF, ?_, ?_⟩
  · rw [State.retire_readByte, State.copyOne_iterate_readByte]
  · rw [State.retire_pair, hBC, ofNat_blockCount, sub_self]
  · rw [State.retire_pair, hHL]
  · rw [State.retire_pair, hDE]
  · rw [State.copyOne_iterate_frame]
    rfl
  · rw [State.copyOne_iterate_frame]
    rfl

/-- Settles O42: the bytes `LDIR` leaves, read at the destination, at the source and elsewhere. -/
theorem blockCopyOfDisjointRanges : Obligations.BlockCopyOfDisjointRanges := by
  intro s hBC hdisjoint
  obtain ⟨-, t, hldir, hbytes, -⟩ := blockCopy s
  have hcount : blockCount (s.pair .BC) = (s.pair .BC).toNat := if_neg hBC
  have hle : (s.pair .BC).toNat ≤ 65536 := hcount ▸ blockCount_le _
  rw [hcount] at hbytes
  refine ⟨t, hldir, fun k hk => ⟨?_, ?_⟩, fun a ha => ?_⟩
  · rw [hbytes, copyBytes_dest hle hdisjoint hk]
  · rw [hbytes, copyBytes_of_not_dest hle fun j hj => (hdisjoint j k hj hk).symm]
  · rw [hbytes, copyBytes_of_not_dest hle ha]

/-- Settles O43: the port write reaches the history alone, and Retire `pc` and the cost. -/
theorem portWriteGoesToHistory : Obligations.PortWriteGoesToHistory := by
  intro r s
  exact ⟨by cases r <;> rfl, _, exec_out_r s r, s.portWrite_ports s.port (s.reg r), rfl, rfl, fun _ => rfl⟩

/-- Settles O45: each form writes its constants, and Retire `pc` and the cost. -/
theorem interruptControl : Obligations.InterruptControl := by
  intro s
  refine ⟨⟨rfl, rfl, rfl, rfl, rfl⟩, ?_, ?_, fun m => ?_⟩
  · exact ⟨_, rfl, rfl, rfl, fun _ => rfl⟩
  · exact ⟨_, rfl, rfl, rfl, fun _ => rfl⟩
  · exact ⟨_, exec_im_n s m, rfl, rfl, fun _ => rfl⟩

end Sys2Proof.Machine
end

section
/-! The index namespace (`48_index.md` rules R240 to R247): the operations of files 40 to 42 on `IX`, whose rules the four statements
are read off. -/

namespace Sys2Proof.Machine

/-! ### The immediate and `IX` as two bytes -/

theorem State.imm_of_highFirst {s : State} (h : s.cfg.imm16Order = .highFirst) (o1 o2 : Byte) :
    s.imm o1 o2 = join o1 o2 := by
  rw [imm, h]
  rfl

theorem State.imm_of_lowFirst {s : State} (h : s.cfg.imm16Order = .lowFirst) (o1 o2 : Byte) :
    s.imm o1 o2 = join o2 o1 := by
  rw [imm, h]
  rfl

theorem State.hiByte_pair_IX (s : State) : hiByte (s.pair .IX) = s.ixh := hiByte_join s.ixh s.ixl

theorem State.loByte_pair_IX (s : State) : loByte (s.pair .IX) = s.ixl := loByte_join s.ixh s.ixl

/-! ### A write of `IX`, then of `F`, then Retire -/

/-- Outside `IX`, `F`, `pc` and the reported cost nothing changes: `IX` holds no general register. -/
theorem setPair_IX_setF_retire_frame (s : State) (v : Word) (f : Byte) (cost : Nat) :
    let t := ((s.setPair .IX v).setF f).retire .P0 cost
    KeepsRegs [] s t ∧ t.pc = s.pc + 2 ∧ OnlyMainAndIX s t :=
  ⟨(s.setPair_keepsRegs v .IX).setF_retire _ _ _, rfl, rfl, fun _ => rfl⟩

/-! ### The statements -/

/-- Settles O46: the two bytes of the immediate, whose order the configuration says, become the halves of `IX`. -/
theorem indexLoadImmediate : Obligations.IndexLoadImmediate := by
  intro o1 o2 s
  refine ⟨rfl, (s.setPair .IX (s.imm o1 o2)).retire .P2 s.cfg.cycles.ldIXnn, rfl, ?_, fun hhigh => ?_, fun hlow => ?_,
    rfl, rfl, rfl, fun _ => rfl⟩
  · rw [State.retire_pair, State.setPair_pair]
  · rw [State.retire_ixh, State.retire_ixl, State.setPair_IX_ixh, State.setPair_IX_ixl, State.imm_of_highFirst hhigh]
    exact ⟨hiByte_join o1 o2, loByte_join o1 o2⟩
  · rw [State.retire_ixh, State.retire_ixl, State.setPair_IX_ixh, State.setPair_IX_ixl, State.imm_of_lowFirst hlow]
    exact ⟨hiByte_join o2 o1, loByte_join o2 o1⟩

/-- Settles O47: the three flag computations of the pairs, and both operands read before `IX` is written. -/
theorem indexArithmetic : Obligations.IndexArithmetic := by
  intro s
  refine ⟨⟨rfl, rfl, fun p => by cases p <;> rfl⟩, ?_, ?_, fun p => ?_⟩
  · refine ⟨_, rfl, ?_, incPairFlags_N,
      keepsFlags_setF_retire (fun _ => incPairFlags_get_other) (storageBits_incPairFlags _) _ _ _,
      setPair_IX_setF_retire_frame s _ _ _⟩
    rw [State.setPair_setF_retire_pair s (by decide)]
    exact BitVec.toNat_add _ _
  · refine ⟨_, rfl, ?_, decPairFlags_N,
      keepsFlags_setF_retire (fun _ => decPairFlags_get_other) (storageBits_decPairFlags _) _ _ _,
      setPair_IX_setF_retire_frame s _ _ _⟩
    rw [State.setPair_setF_retire_pair s (by decide)]
    bv_omega
  · refine ⟨_, exec_add_IX_pp s p, ?_, addPairFlags_C, addPairFlags_H, addPairFlags_N,
      keepsFlags_setF_retire (fun _ => addPairFlags_get_other) (storageBits_addPairFlags _ _ _) _ _ _,
      setPair_IX_setF_retire_frame s _ _ _⟩
    rw [State.setPair_setF_retire_pair s (by decide)]
    exact BitVec.toNat_add _ _

/-- Settles O48: the push and the pop of a pair, whose two bytes are the halves of `IX`. -/
theorem indexStack : Obligations.IndexStack := by
  intro s
  refine ⟨⟨rfl, rfl⟩, ?_, ?_⟩
  · obtain ⟨t, hpush, hhigh, hlow, hframe⟩ := pushPair_completes .IX .P0 s.cfg.cycles.pushIX s
    exact ⟨t, hpush, hhigh.trans s.hiByte_pair_IX, hlow.trans s.loByte_pair_IX, hframe⟩
  · exact ⟨_, popPair_eq .IX .P0 s.cfg.cycles.popIX s, loByte_join _ _, hiByte_join _ _, rfl, rfl, rfl, fun _ => rfl⟩

/-- Settles O49: the store of `IXL` alone, and the load of `IXL` alone. -/
theorem indexMemoryMovesLowHalfOnly : Obligations.IndexMemoryMovesLowHalfOnly := by
  intro o1 o2 s
  refine ⟨⟨rfl, rfl⟩, ?_, ?_⟩
  · exact storeByte_completes (s.imm o1 o2) s.ixl .P2 s.cfg.cycles.ldIXmem s
  · exact ⟨_, rfl, rfl, rfl, rfl, fun _ => rfl⟩

end Sys2Proof.Machine
end

section
/-! Exceptions (`60_exceptions.md`): the fatal stop of an unmapped opcode (rules R261 to R263), and that Execute raises nothing. -/

namespace Sys2Proof.Machine

/-! ### The fatal stop -/

theorem step_of_fetch_error {s : State} {u : Unmapped} (hs : s.stop = none) (hf : s.fetch = .error u) :
    step s = .fault (.unmappedOpcode u.ns u.byte) := by
  simp only [step, hs, hf, raiseUnmapped]

/-- A recorded stop is raised again by every step (rule R263). -/
theorem step_recordStop (s : State) (u : Unmapped) :
    step (s.recordStop u) = .fault (.unmappedOpcode u.ns u.byte) := rfl

/-- What a fault leaves is the state before it with the stop recorded (rule R262). -/
theorem State.settle_of_step_fault {s : State} {ns : Namespace} {byte : Byte}
    (h : step s = .fault (.unmappedOpcode ns byte)) : s.settle = s.recordStop ⟨ns, byte⟩ := by
  simp only [settle, h]

/-- Where fetch meets an unmapped pair, the step raises it, the record is all that changes, and the next step raises it again. -/
theorem stops_of_fetch_error {s : State} {ns : Namespace} {byte : Byte} (hs : s.stop = none)
    (hf : s.fetch = .error ⟨ns, byte⟩) :
    step s = .fault (.unmappedOpcode ns byte) ∧ s.settle = { s with stop := some ⟨ns, byte⟩ } ∧
      step s.settle = .fault (.unmappedOpcode ns byte) := by
  have hstep := step_of_fetch_error hs hf
  have hsettle := State.settle_of_step_fault hstep
  refine ⟨hstep, hsettle, ?_⟩
  rw [hsettle]
  exact step_recordStop s ⟨ns, byte⟩

/-! ### The statements -/

/-- Settles O11: in the namespace the byte at `pc` selects, or in the basic one, Dispatch finds no row, so fetch answers the
unmapped pair. -/
theorem fatalStop : Obligations.FatalStop := by
  intro s hs
  refine ⟨fun ns hns hcat => stops_of_fetch_error hs ?_, fun hns hcat => stops_of_fetch_error hs ?_⟩
  · rw [s.fetch_eq_decodeWindow, decodeWindow_prefixed hns, dispatch_unmapped hcat]
  · rw [s.fetch_eq_decodeWindow, decodeWindow_basic hns, dispatch_unmapped hcat]

/-- Settles O12: `exec_completes` names the state each instruction ends in. -/
theorem everyInstructionCompletes : Obligations.EveryInstructionCompletes := by
  intro i s
  obtain ⟨t, ht, -⟩ := exec_completes i s
  exact ⟨t, ht⟩

end Sys2Proof.Machine
end

section
/-! Reset and the cycle costs (`70_reset_and_hazards.md`): the entry of a run (rule R292), and the entry of the cycle table each form
reports (rules R300, R301). -/

namespace Sys2Proof.Machine

/-- Settles O58: the first byte is fetched at `pc` itself. -/
theorem runSetsOnlyPc : Obligations.RunSetsOnlyPc := by
  intro s start
  refine ⟨rfl, ?_, s.run_readByte start⟩
  rw [State.fetchByte, State.run_pc, State.run_readByte, BitVec.add_zero]

/-! ### The cost of a conditional form (`70_reset_and_hazards.md` rules R301, R302) -/

section
variable (took : Bool) (target : Word) (s : State)

theorem jumpIf_cycles (fmt : Format) (cost : BranchCost) :
    ∃ t, jumpIf took target fmt cost s = .next t ∧ t.cycles = if took then cost.taken else cost.notTaken :=
  ⟨_, jumpIf_eq_jump took target fmt cost s, rfl⟩

theorem callIf_cycles : ∃ t, callIf took target s = .next t ∧
    t.cycles = if took then s.cfg.cycles.callCc.taken else s.cfg.cycles.callCc.notTaken := by
  cases took <;> exact ⟨_, rfl, rfl⟩

theorem retIf_cycles : ∃ t, retIf took s = .next t ∧
    t.cycles = if took then s.cfg.cycles.retCc.taken else s.cfg.cycles.retCc.notTaken := by
  cases took <;> exact ⟨_, rfl, rfl⟩

end

/-- `DJNZ` is taken except at `B = 1`. -/
theorem djnz_e_cycles (o1 : Byte) (s : State) : ∃ t, exec (.djnz_e o1) s = .next t ∧
    t.cycles = if s.reg .B = 1 then s.cfg.cycles.djnz.notTaken else s.cfg.cycles.djnz.taken := by
  obtain ⟨t, ht, hcycles⟩ :=
    jumpIf_cycles (s.reg .B - 1 != 0) (s.relTarget o1) (s.setReg .B (s.reg .B - 1)) .B1 s.cfg.cycles.djnz
  refine ⟨t, ht, hcycles.trans ?_⟩
  simp only [bne_iff_ne, ne_eq, sub_eq_zero, ite_not]

/-- Settles O59: the one operation each form runs ends with the form's entry as the reported cost. -/
theorem reportedCycleCosts : Obligations.ReportedCycleCosts := by
  unfold Obligations.ReportedCycleCosts
  intro costs costsBranch
  refine ⟨fun r => ?_, fun p => ?_, fun q => ?_, fun p => ?_, fun o1 o2 => ?_, fun o1 => ?_, ?_⟩
  · exact ⟨fun s => ⟨_, exec_inc_r s r, rfl⟩, fun s => ⟨_, exec_dec_r s r, rfl⟩, fun s => ⟨_, exec_srl_r s r, rfl⟩,
      fun s => ⟨_, exec_cp_r s r, rfl⟩, fun s => ⟨_, exec_sub_r s r, rfl⟩, fun s => ⟨_, exec_sbc_A_r s r, rfl⟩,
      fun s => ⟨_, exec_and_s s (.reg r), rfl⟩, fun s => ⟨_, exec_or_s s (.reg r), rfl⟩,
      fun s => ⟨_, exec_xor_s s (.reg r), rfl⟩, fun s => ⟨_, exec_ld_r_iHL s r, rfl⟩,
      fun s => ⟨_, exec_ld_iHL_r s r, rfl⟩, fun s => ⟨_, exec_out_r s r, rfl⟩,
      fun r' s => ⟨_, exec_ld_r_r s r r', rfl⟩, fun n s => ⟨_, exec_ld_r_n s n r, rfl⟩⟩
  · exact ⟨fun s => ⟨_, exec_inc_rr s p, rfl⟩, fun s => ⟨_, exec_dec_rr s p, rfl⟩,
      fun s => ⟨_, exec_add_HL_rr s p, rfl⟩, fun o1 o2 s => ⟨_, exec_ld_rr_nn s o1 o2 p, rfl⟩⟩
  · exact ⟨fun s => ⟨_, exec_push_qq s q, rfl⟩, fun s => ⟨_, exec_pop_qq s q, rfl⟩⟩
  · exact ⟨fun s => ⟨_, exec_ld_A_irr s p, rfl⟩, fun s => ⟨_, exec_ld_irr_A s p, rfl⟩⟩
  · exact ⟨fun s => ⟨_, rfl, rfl⟩, fun s => ⟨_, rfl, rfl⟩, fun s => ⟨_, rfl, rfl⟩, fun s => ⟨_, rfl, rfl⟩,
      fun s => ⟨_, rfl, rfl⟩, fun s => ⟨_, rfl, rfl⟩, fun s => ⟨_, rfl, rfl⟩, fun s => ⟨_, rfl, rfl⟩⟩
  · exact ⟨fun s => ⟨_, rfl, rfl⟩, fun s => ⟨_, rfl, rfl⟩⟩
  · refine ⟨fun s => ⟨_, rfl, rfl⟩, fun s => ⟨_, exec_and_s s .iHL, rfl⟩, fun s => ⟨_, exec_or_s s .iHL, rfl⟩,
      fun s => ⟨_, exec_xor_s s .iHL, rfl⟩, fun s => ⟨_, rfl, rfl⟩, fun s => ⟨_, rfl, rfl⟩, fun s => ⟨_, rfl, rfl⟩,
      fun s => ⟨_, rfl, rfl⟩, fun s => ⟨_, rfl, rfl⟩, fun s => ⟨_, rfl, rfl⟩, fun s => ⟨_, rfl, rfl⟩,
      fun m s => ⟨_, exec_im_n s m, rfl⟩, fun s => ⟨_, rfl, rfl⟩, fun s => ⟨_, rfl, rfl⟩,
      fun p s => ⟨_, exec_add_IX_pp s p, rfl⟩, fun s => ⟨_, rfl, rfl⟩, fun s => ⟨_, rfl, rfl⟩,
      fun cc o1 o2 => ⟨fun s => ?_, fun s => ?_⟩, fun cc s => ?_, fun cc o1 s => ?_, fun s o1 => djnz_e_cycles o1 s⟩
    · rw [exec_jp_cc]
      exact jumpIf_cycles _ _ s _ _
    · rw [exec_call_cc]
      exact callIf_cycles _ _ s
    · rw [exec_ret_cc]
      exact retIf_cycles _ s
    · rw [exec_jr_cc]
      exact jumpIf_cycles _ _ s _ _

end Sys2Proof.Machine
end
